-- ==== Sys2Proof/Word.lean ====
section
/-! DEFINITION. The words the part handles: bytes, card serials, dock numbers and manifest slots. -/

namespace Sys2Proof

/-- One byte of a port frame or of a post line frame (R31, R154). -/
abbrev Byte := BitVec 8

/-- A card serial, 7 bytes.  Byte 0, the first the reader delivers, is the most significant (R58). -/
abbrev Serial := BitVec 56

/-- A dock, held as its index 0-63.  Dock number `n` on the street is index `n - 1` (R1). -/
abbrev DockNo := Fin 64

/-- One of the two manifest slots (R111). -/
abbrev SlotNo := Fin 2

end Sys2Proof
end

