-- ==== Sys2Proof/Config.lean ====
section
/-! DEFINITION. The free values: values the spec leaves open after a command that goes on.  They have no body, so no
proof can see what they are. -/

namespace Sys2Proof

/-- The station time a manifest takes as its staged-until when the exact sum passes 4,294,967,295, the end of station
time (R175).  R113, R134 and R177 give the sum and say nothing of one that does not fit (assumption 9).  The argument is the
model's free-value counter, so that each use is a value of its own.  DESIGN CHOICE: a free value, bounded by its width. -/
opaque Config.freeTime : Nat → BitVec 32

end Sys2Proof
end

