-- ==== Sys2Proof/Syntax.lean ====
section
/-! DEFINITION. The commands of the part: one constructor of `Instr` per row of spec/opcode_table.json, with the operands
that reach the part from outside.  Operands of a port request are the fields of its payload as received, each in the
width R189 and R190 give it, so that a value outside its range can be written down and is judged by the part. -/

namespace Sys2Proof

/-- The three ports (00_scope, R163). -/
inductive PortId where
  | kiosk
  | backhaul
  | service
deriving DecidableEq, Repr

/-- What every request frame carries beside its request: the port, the tag, and the one bit of the 30 protected header
bits that the link turned over, if any: 0-23 the header bits, 24-28 the low five check bits, 29 the check byte's bit 5
(R155).  A header with more wrong bits than one is the command `headerError`. -/
structure Link where
  port : PortId
  tag  : BitVec 2
  flip : Option (Fin 30)
deriving DecidableEq, Repr

/-- What a long frame carries beside its fields: the checksum as received (R157), and, where the payload clocked in is not
one of the request's layout (another length, R159 step 7), that payload, whose fields are then not read. -/
structure LongFrame where
  link   : Link
  sum    : BitVec 16
  misfit : Option (List Byte)
deriving DecidableEq, Repr

/-- The fields of CARD_PUT (R61, R190). -/
structure CardPut where
  serial        : Serial
  kind          : Byte
  member        : BitVec 24
  plan          : Byte
  status        : Byte
  balance       : BitVec 32
  expiryPresent : Byte
  expiry        : BitVec 32
deriving DecidableEq, Repr

/-- The seven tariff values of TARIFF_PUT and of a TARIFFS cursor write, 4 bytes signed each (R81, R190). -/
structure TariffWords where
  free     : BitVec 32
  block    : BitVec 32
  price    : BitVec 32
  cap      : BitVec 32
  limit    : BitVec 32
  minFunds : BitVec 32
  credit   : BitVec 32
deriving DecidableEq, Repr

/-- One line of a manifest request: the action and filter byte, and asked (R112, R190). -/
structure LineWords where
  form  : Byte
  asked : Byte
deriving DecidableEq, Repr

/-- One entry of FAULT_ACK: a fault number and the repeats as read (R146, R190). -/
structure AckWords where
  number  : BitVec 16
  repeats : Byte
deriving DecidableEq, Repr

/-- The values of a STATION_SET that writes: 13 signed numbers of 4 bytes, then 5 choice bytes (R180, R190). -/
structure SettingsWords where
  stationNumber  : BitVec 32
  memberWindow   : BitVec 32
  vanWindow      : BitVec 32
  retractWindow  : BitVec 32
  lowFill        : BitVec 32
  attribution    : BitVec 32
  sweepPeriod    : BitVec 32
  replyTimeout   : BitVec 32
  retryLimit     : BitVec 32
  dropThreshold  : BitVec 32
  dropWindow     : BitVec 32
  probeInterval  : BitVec 32
  idleTimeout    : BitVec 32
  lineParity     : Byte
  parityCheck    : Byte
  sumKiosk       : Byte
  sumBackhaul    : Byte
  sumService     : Byte
deriving DecidableEq, Repr

/-- The values CURSOR_WRITE carries: those of one tariff record, those of one map entry, or a payload that is neither
(R167, R190). -/
inductive CursorEntry where
  | tariff (v : TariffWords)
  | map (valid address : Byte)
  | other (payload : List Byte)
deriving DecidableEq, Repr

/-- The 19 bytes of a trip stamp as they stand on a tag (10.6). -/
structure StampWords where
  station : BitVec 16
  dock    : Byte
  start   : BitVec 32
  serial  : Serial
  card    : Byte
  trip    : BitVec 32
deriving DecidableEq, Repr

/-- The 24-byte state block of a QUERY reply or of INSERT news, as received (R32, R33, R192). -/
structure StateBlock where
  flags : Byte
  bike  : BitVec 24
  mark  : Byte
  stamp : StampWords
deriving DecidableEq, Repr

/-- The status byte of a post's reply (R32). -/
inductive PostStatus where
  | ok
  | locked
  | empty
  | lockFail
  | tagAbsent
  | tagWriteFail
deriving DecidableEq, Repr

/-- One byte on the post line with the parity bit that followed it (R31). -/
structure LineByte where
  value  : Byte
  parity : Bool
deriving DecidableEq, Repr

/-- What every good news frame carries beside its news: the sequence bit (R33), and the level of the call wire when the
round ends, which the line arbiter reads (R40). -/
structure NewsHead where
  seq  : Bool
  call : Bool
deriving DecidableEq, Repr

/-- The commands.  `call`, wherever it stands, is the level of the shared call wire in the step, which the line arbiter
reads when the line becomes free (R40). -/
inductive Instr where
  /-- CARD_PUT (R61) -/
  | cardPut (f : LongFrame) (r : CardPut)
  /-- CARD_CREDIT (R63) -/
  | cardCredit (f : LongFrame) (serial : Serial) (delta : BitVec 32)
  /-- CARD_STATUS (R64) -/
  | cardStatus (f : LongFrame) (serial : Serial) (status : Byte)
  /-- CARD_TRIPS (R65) -/
  | cardTrips (f : LongFrame) (serial : Serial) (count : Byte)
  /-- CARD_DROP (R66) -/
  | cardDrop (f : LongFrame) (serial : Serial)
  /-- CARD_QUERY, long form (R67) -/
  | cardQuery (f : LongFrame) (serial : Serial)
  /-- CARD_QUERY, short form (R189) -/
  | cardQueryShortForm (k : Link) (position : BitVec 16)
  /-- GUEST_ISSUE (R68) -/
  | guestIssue (f : LongFrame) (serial : Serial) (plan : Byte) (deposit : BitVec 32) (validity : BitVec 16)
  /-- RELEASE_DOCK (R75) -/
  | releaseDock (f : LongFrame) (serial : Serial) (dock : Byte)
  /-- RELEASE_ANY (R76) -/
  | releaseAny (f : LongFrame) (serial : Serial)
  /-- TARIFF_PUT (R81) -/
  | tariffPut (f : LongFrame) (plan : Byte) (v : TariffWords)
  /-- JOURNAL_READ (R107) -/
  | journalRead (f : LongFrame) (number : BitVec 32)
  /-- JOURNAL_TAKE (R108) -/
  | journalTake (f : LongFrame) (number : BitVec 32)
  /-- MANIFEST_STAGE (R113) -/
  | manifestStage (f : LongFrame) (id : BitVec 16) (validity : Byte) (lines : List LineWords)
  /-- MANIFEST_OPEN (R114) -/
  | manifestOpen (f : LongFrame) (staff : Serial) (id : BitVec 16) (adopt : Byte) (lines : List LineWords)
  /-- MANIFEST_RELEASE (R121) -/
  | manifestRelease (k : Link) (line count : Byte)
  /-- MANIFEST_CLOSE (R129) -/
  | manifestClose (k : Link) (id : BitVec 16)
  /-- MANIFEST_QUERY (R132) -/
  | manifestQuery (k : Link) (id : BitVec 16)
  /-- FAULT_REPORT (R139) -/
  | faultReport (f : LongFrame) (dock code present : Byte) (card : Serial)
  /-- FAULT_READ (R145) -/
  | faultRead (k : Link) (params : BitVec 16)
  /-- FAULT_ACK (R146) -/
  | faultAck (f : LongFrame) (discarded : Byte) (entries : List AckWords)
  /-- FAULT_DROP (R147) -/
  | faultDrop (k : Link) (number : BitVec 16)
  /-- POLICY_SET (R140) -/
  | policySet (k : Link) (code policy : Byte)
  /-- BIKE_MARK with operation SET (R148) -/
  | bikeMarkSet (f : LongFrame) (dock code : Byte) (expected : BitVec 24)
  /-- BIKE_MARK with operation CLEAR (R148); its code byte is carried and not used -/
  | bikeMarkClear (f : LongFrame) (dock code : Byte) (expected : BitVec 24)
  /-- BIKE_CLEAR (R149) -/
  | bikeClear (f : LongFrame) (dock : Byte) (expected : BitVec 24)
  /-- DOCK_RESET (R150); the second parameter has no use (R189) -/
  | dockReset (k : Link) (dock second : Byte)
  /-- MAP_PUT (R53) -/
  | mapPut (f : LongFrame) (dock valid address : Byte)
  /-- CLOCK_SET (R176) -/
  | clockSet (f : LongFrame) (time : BitVec 32)
  /-- STATION_SET with write flag no (R180) -/
  | stationSetRead (f : LongFrame)
  /-- STATION_SET with write flag yes (R180) -/
  | stationSetWrite (f : LongFrame) (w : SettingsWords)
  /-- STATION_RESTART (R185); the second parameter has no use (R189) -/
  | stationRestart (k : Link) (kind second : Byte)
  /-- CURSOR_SET (R165); `rest` is bits 13-15 of its parameters (R189) -/
  | cursorSet (k : Link) (index : BitVec 9) (table mode : BitVec 2) (rest : BitVec 3)
  /-- CURSOR_READ (R166) -/
  | cursorRead (k : Link) (params : BitVec 16)
  /-- CURSOR_WRITE (R167) -/
  | cursorWrite (f : LongFrame) (w : CursorEntry)
  /-- NOTICE_READ (R171) -/
  | noticeRead (k : Link) (params : BitVec 16)
  /-- NOTICE_MASK (R170) -/
  | noticeMask (f : LongFrame) (flags : BitVec 16) (docks : BitVec 64)
  /-- NOTICE_CLEAR (R172) -/
  | noticeClear (f : LongFrame) (flags : BitVec 16) (docks : BitVec 64) (counters : Byte)
  /-- an IDLE frame on data in (R154) -/
  | idleFrame (k : Link) (params : BitVec 16)
  /-- a request frame whose kind names no request (R159): `params` for a short kind, `payload` for a long one -/
  | unassignedKindFrame (f : LongFrame) (kind : BitVec 6) (params : BitVec 16) (payload : List Byte)
  /-- a header that cannot be corrected, or a payload length above 512, as received (R156) -/
  | headerError (port : PortId) (header : BitVec 24) (check : Byte)
  /-- release of a port's select; `cut` is the part of an input frame that had been clocked in (R153, R158) -/
  | selectReleased (port : PortId) (cut : List Byte)
  /-- the last byte of the reply at the head of a port's queue is clocked out (R161) -/
  | replyClockedOut (port : PortId)
  /-- a good QUERY reply ends its exchange (R19) -/
  | query (block : StateBlock) (call : Bool)
  /-- a good UNLOCK reply ends its exchange (R10) -/
  | unlock (status : PostStatus) (call : Bool)
  /-- a good LOCK reply ends its exchange (R16) -/
  | lock (status : PostStatus) (call : Bool)
  /-- a good WRITE_TAG stamp reply ends its exchange (R9) -/
  | writeTagStamp (status : PostStatus) (call : Bool)
  /-- a good WRITE_TAG clear reply ends its exchange (R20) -/
  | writeTagClear (status : PostStatus) (call : Bool)
  /-- a good WRITE_TAG mark reply ends its exchange (R22) -/
  | writeTagMark (status : PostStatus) (call : Bool)
  /-- a good WRITE_TAG clear-mark reply ends its exchange (R22) -/
  | writeTagClearMark (status : PostStatus) (call : Bool)
  /-- a good SHOW reply ends its exchange (R42) -/
  | showReply (status : PostStatus) (call : Bool)
  /-- a good PROBE reply ends its exchange (R47) -/
  | probe (status : PostStatus) (call : Bool)
  /-- the reply timeout of a try expires with no good reply (R35) -/
  | replyTimeout (call : Bool)
  /-- the call wire is asserted (R40) -/
  | callWireAsserted
  /-- the seven arbitration slots end with this rank on the wire (R36) -/
  | callRoundArbitration (rank : BitVec 7) (call : Bool)
  /-- good TAP news from the round's winner (R70) -/
  | tap (n : NewsHead) (serial : Serial)
  /-- good INSERT news from the round's winner (R15) -/
  | insert (n : NewsHead) (block : StateBlock)
  /-- good REMOVED news from the round's winner (R18) -/
  | removed (n : NewsHead)
  /-- good FAULT_KEY news from the round's winner (R138) -/
  | faultKey (n : NewsHead) (code : Byte)
  /-- good JAM news from the round's winner (R23) -/
  | jam (n : NewsHead)
  /-- a news frame that fails a check of R37, as received (R39) -/
  | badNewsFrame (frame : List LineByte) (call : Bool)
  /-- the winner sends no news frame within the reply timeout (R39) -/
  | newsTimeout (call : Bool)
  /-- the deadline of an OPEN release is reached (R12) -/
  | releaseDeadline (dock : DockNo)
  /-- a refusal flash deadline is reached (R28) -/
  | flashDeadline (dock : DockNo)
  /-- a dock's drop window ends (R44) -/
  | dropWindowEnd (dock : DockNo)
  /-- a LOST dock's probe timer is reached (R47) -/
  | probeTimer (dock : DockNo)
  /-- the sweep timer expires (R49) -/
  | sweepTimer
  /-- an ACTIVE manifest's idle deadline is reached (R128) -/
  | idleDeadline (slot : SlotNo)
  /-- station time reaches a STAGED manifest's staged-until (R127) -/
  | stagedExpiry (slot : SlotNo)
  /-- station time reaches a GUEST entry's expiry (R69) -/
  | guestExpiry (serial : Serial)
  /-- 2 s of uptime have passed since a STATION_RESTART (R185) -/
  | restartDue
  /-- main power fails (R183) -/
  | mainPowerFail
  /-- main power returns (R184) -/
  | mainPowerReturn
  /-- the battery supply fails (R182) -/
  | batteryFail
  /-- RESET is asserted (R184) -/
  | resetAsserted
  /-- RESET is released (R184) -/
  | resetReleased
  /-- a complete reply frame that fails a check of R34, as received (R35) -/
  | badReply (frame : List LineByte) (call : Bool)
deriving DecidableEq, Repr

end Sys2Proof
end

