-- ==== Sys2Proof/Machine/State.lean ====
section
/-! DEFINITION. The state of the part, as plain data: the dock table, the post line, the card store, the tariffs, the
journal, the manifests, the fault queue, the three ports, the timebase, the settings and the retention controller, with
the queue of commands that wait; the reasons to stop; and the state right after the first start. -/

namespace Sys2Proof.Machine

/-! ## Times -/

/-- A recorded time with its kind: station time, or uptime while the station clock is unset (R1, R175). -/
inductive Time where
  | clock (value : Nat)
  | uptime (value : Nat)
deriving DecidableEq, Repr

/-! ## Tags, stamps and post commands -/

/-- A trip stamp as the part reads it from a tag or builds it at a grant (R8, R192).  `guest` is the card kind. -/
structure Stamp where
  station : Nat
  dock    : Nat
  start   : Nat
  serial  : Serial
  guest   : Bool
  plan    : Fin 8
  trip    : Nat
deriving DecidableEq, Repr

/-- A tag that could be read: bike number, fault mark and trip stamp (R15, R192). -/
structure TagRecord where
  bike  : Nat
  mark  : Option Nat
  stamp : Option Stamp
deriving DecidableEq, Repr

/-- What a state block says of a bike that stands in the dock: the latch, and the tag record or "no tag" (R192). -/
structure BikeReading where
  latched : Bool
  tag     : Option TagRecord
deriving DecidableEq, Repr

/-- The indicator patterns (R27, R32). -/
inductive Pattern where
  | off
  | green
  | greenBlink
  | amber
  | red
  | redBlink
deriving DecidableEq, Repr

/-- The commands a post is sent, with their parameters (R32). -/
inductive Cmd where
  | query
  | unlock (window : Nat)
  | lock
  | stamp (stamp : Stamp)
  | clear
  | mark (code : Nat)
  | clearMark
  | display (pattern : Pattern)
  | probe
deriving DecidableEq, Repr

/-! ## The dock record -/

/-- Whether a mapped dock's post answers (R1). -/
inductive LinkState where
  | online
  | lost
deriving DecidableEq, Repr

/-- The custody states of a dock (1.2). -/
inductive Custody where
  | verify
  | empty
  | docked
  | releasing
  | arriving
  | jammed
deriving DecidableEq, Repr

/-- A hold: the manifest slot and the line index it names (R1). -/
structure Hold where
  slot : SlotNo
  line : Nat
deriving DecidableEq, Repr

/-- The side a rental was asked from, with the request tag for a port (R8). -/
inductive Side where
  | post
  | kiosk (tag : BitVec 2)
  | backhaul (tag : BitVec 2)
deriving DecidableEq, Repr

/-- What a release is for.  A rental's stamp holds its card serial, card kind, plan and trip serial.  A van release names
its slot and line, and whether a staff tap asked for it (R8, R28). -/
inductive Purpose where
  | rental (stamp : Stamp) (side : Side)
  | van (slot : SlotNo) (line : Nat) (tapped : Bool)
deriving DecidableEq, Repr

/-- The phase of a release (1.4). -/
inductive Phase where
  | stamping
  | unlocking
  | opened
  | relocking
deriving DecidableEq, Repr

/-- What a fault report asks of a dock: a quarantine mark or a clearing (R22). -/
inductive Marking where
  | mark (code : Nat)
  | clear
deriving DecidableEq, Repr

/-- The release context, and the verify context that copies it (R8).  `stopped` is the uptime at which the loss of the post
stopped the deadline (R24).  `waiting` says that a port request still waits for its reply (R24, R30). -/
structure Release where
  purpose     : Purpose
  phase       : Phase
  deadline    : Option Nat
  stopped     : Option Nat
  pendingMark : Option Marking
  waiting     : Bool
deriving DecidableEq, Repr

/-- What a locked arrival settles as: END, provisional while its time is an uptime (R84), RETRACT, or VAN_IN with the
manifest id it was attributed to (R126). -/
inductive Settlement where
  | ended (provisional : Bool) (stamp : Stamp)
  | retract (stamp : Stamp)
  | vanIn (manifest : Option Nat)
deriving DecidableEq, Repr

/-- What the LOCKED reply to an arrival decided: when it came, and the settlement (R16, R84). -/
structure Locked where
  at_  : Time
  what : Settlement
deriving DecidableEq, Repr

/-- The arrival context (R15).  `clockLate` says that its time was recorded while the clock was unset (R96).  `locked` is
present from the LOCKED reply. -/
structure Arrival where
  time      : Time
  clockLate : Bool
  lowFill   : Bool
  tag       : Option TagRecord
  locked    : Option Locked
deriving DecidableEq, Repr

/-- The settle pending mark (R1, R101). -/
structure Settle where
  what      : Settlement
  time      : Time
  clockLate : Bool
  lowFill   : Bool
  bike      : Nat
deriving DecidableEq, Repr

/-- Last return (R1). -/
structure LastReturn where
  serial : Serial
  time   : Time
deriving DecidableEq, Repr

/-- One dock record (R1).  `withheld` says that the bike number 0 stands for a number another dock holds (R21).
`clearHeld` is the bit R30 keeps with the retained set: the dock held a WRITE_TAG clear of a stamp when the part stopped.
`lastPattern` absent is UNKNOWN. -/
structure Dock where
  mapped      : Bool
  link        : LinkState
  custody     : Custody
  bike        : Option Nat
  withheld    : Bool
  since       : Option Time
  mark        : Option Nat
  stale       : Bool
  hold        : Option Hold
  release     : Option Release
  verifyCtx   : Option Release
  arrival     : Option Arrival
  settle      : Option Settle
  lastReturn  : Option LastReturn
  steps       : List Cmd
  lastPattern : Option Pattern
  flash       : Option Nat
  clearHeld   : Bool
deriving DecidableEq, Repr

/-- A dock record with every field at its cleared value (R1). -/
def Dock.cleared : Dock :=
  { mapped := false, link := .online, custody := .empty, bike := none, withheld := false, since := none, mark := none
    stale := false, hold := none, release := none, verifyCtx := none, arrival := none, settle := none
    lastReturn := none, steps := [], lastPattern := none, flash := none, clearHeld := false }

/-! ## The post line -/

/-- Where a command in a slot came from (R41). -/
inductive Origin where
  | custody
  | sweep
  | probe
  | display
deriving DecidableEq, Repr

/-- A pending command in a dock's slot (R41). -/
structure SlotCmd where
  cmd    : Cmd
  origin : Origin
deriving DecidableEq, Repr

/-- The exchange in flight: the dock, the address it was sent to, the command, its origin, the tries made with the one
under way, and whether its outcome is to be discarded (R34, R35, R47). -/
structure Exchange where
  dock    : DockNo
  address : Nat
  cmd     : Cmd
  origin  : Origin
  tries   : Nat
  discard : Bool
deriving DecidableEq, Repr

/-- The line arbiter's state (R40).  In a round, the winner is absent until the arbitration slots have ended (R36). -/
inductive Arbiter where
  | free
  | exchange (x : Exchange)
  | round (winner : Option Nat)
deriving DecidableEq, Repr

/-- What the line controller holds for one dock: the command slot's pending command, the SHOW-pending flag, the three
counts, the end of the drop window, the last news sequence and the probe timer (R41 to R47). -/
structure Lane where
  slot      : Option SlotCmd
  display   : Option Pattern
  errors    : Nat
  window    : Nat
  windowEnd : Option Nat
  failures  : Nat
  lastSeq   : Option Bool
  probeAt   : Option Nat
deriving DecidableEq, Repr

/-- A lane at a start, and after a map write that changes the dock's entry (R54, R56). -/
def Lane.start : Lane :=
  { slot := none, display := none, errors := 0, window := 0, windowEnd := none, failures := 0, lastSeq := none
    probeAt := none }

/-- The line controller, less the dock map.  `sweepAt` is the sweep position, absent for IDLE (R50); `sweepDue` the sweep
timer (R49); `call` the level of the call wire as last read; `ack` and `sent` the last NEWS_ACK frame and the last command
or CALL_POLL frame the part put on the line. -/
structure Line where
  arbiter  : Arbiter
  rounds   : Nat
  call     : Bool
  pointer  : Nat
  queue    : List DockNo
  lanes    : Vector Lane 64
  sweepAt  : Option Nat
  sweepDue : Nat
  ack      : List LineByte
  sent     : List LineByte
deriving DecidableEq, Repr

/-- The line controller at every start (R56). -/
def Line.start : Line :=
  { arbiter := .free, rounds := 0, call := false, pointer := 1, queue := [], lanes := Vector.replicate 64 Lane.start
    sweepAt := none, sweepDue := 0, ack := [], sent := [] }

/-! ## The card store -/

/-- A card entry's status (R57). -/
inductive CardStatus where
  | active
  | suspended
  | denied
deriving DecidableEq, Repr

/-- What a card entry holds by its kind (R57). -/
inductive CardBody where
  | member (number : Nat) (plan : Fin 8) (balance : Int) (lastCharge : Option Nat)
  | guest (number : Nat) (plan : Fin 8) (deposit : Int) (lastCharge : Option Nat)
  | staff (number : Nat)
deriving DecidableEq, Repr

/-- One card entry (R57). -/
structure Card where
  serial  : Serial
  body    : CardBody
  status  : CardStatus
  trips   : Nat
  expiry  : Option Nat
  lastUse : Option Nat
deriving DecidableEq, Repr

/-- One tariff record (R80). -/
structure Tariff where
  free     : Nat
  block    : Nat
  price    : Nat
  cap      : Nat
  limit    : Nat
  minFunds : Int
  credit   : Nat
deriving DecidableEq, Repr

/-- The cold tariff values (R80). -/
def Tariff.cold : Tariff :=
  { free := 30, block := 30, price := 100, cap := 0, limit := 1, minFunds := 0, credit := 0 }

/-! ## The journal -/

/-- The flags of a journal record (R96). -/
structure JournalFlags where
  skew       : Bool := false
  long       : Bool := false
  capped     : Bool := false
  credit     : Bool := false
  remoteCard : Bool := false
  late       : Bool := false
  shortfall  : Bool := false
  floor      : Bool := false
  deferred   : Bool := false
  clockLate  : Bool := false
deriving DecidableEq, Repr

/-- The actions of a manifest line (R112). -/
inductive Action where
  | load
  | unload
deriving DecidableEq, Repr

/-- The filters of a manifest line (R112). -/
inductive Filter where
  | any
  | healthy
  | faulty
deriving DecidableEq, Repr

/-- Why a manifest closed (R111). -/
inductive CloseReason where
  | done
  | expired
  | idle
  | cancelled
deriving DecidableEq, Repr

/-- One line summary of a VAN_CLOSE record (R96). -/
structure LineSummary where
  action          : Action
  asked           : Nat
  reservedAtClose : Nat
  done            : Nat
  displaced       : Nat
deriving DecidableEq, Repr

/-- The own parts of a journal record, by its kind (R96). -/
inductive JournalBody where
  | start (serial : Serial) (guest : Bool) (plan : Fin 8) (trip : Nat)
  | ended (stamp : Stamp) (duration gross credit net deducted : Nat)
  | retract (serial : Serial) (trip duration : Nat)
  | vanOut (manifest : Nat)
  | vanIn (manifest : Option Nat)
  | vanClose (manifest : Nat) (reason : CloseReason) (lines : List LineSummary)
deriving DecidableEq, Repr

/-- A journal record; `dock` is 0 for VAN_CLOSE (R95). -/
structure JournalRecord where
  number : Nat
  body   : JournalBody
  time   : Time
  dock   : Nat
  bike   : Nat
  flags  : JournalFlags
deriving DecidableEq, Repr

/-- The trip journal: its records, oldest first, the next record number and the reserved count (R95, R97, R98).  The
settle-pending list is the docks that carry a settle pending mark (R101). -/
structure Journal where
  records  : List JournalRecord
  next     : Nat
  reserved : Nat
deriving DecidableEq, Repr

/-! ## The manifests -/

/-- One line of a manifest (R112). -/
structure MLine where
  action          : Action
  filter          : Filter
  asked           : Nat
  reserved        : Nat
  done            : Nat
  displaced       : Nat
  reservedAtClose : Option Nat
deriving DecidableEq, Repr

/-- The states of a manifest (6.1). -/
inductive MState where
  | staged
  | active
  | closing
deriving DecidableEq, Repr

/-- Who made a manifest (R111). -/
inductive MOrigin where
  | backhaul
  | service
deriving DecidableEq, Repr

/-- A manifest (R111). -/
structure Manifest where
  id          : Nat
  state       : MState
  origin      : MOrigin
  staff       : Option Serial
  stagedUntil : Option Nat
  idleAt      : Option Nat
  reason      : Option CloseReason
  waiting     : Bool
  lines       : List MLine
deriving DecidableEq, Repr

/-- The outcome of one dock of a MANIFEST_RELEASE (R122). -/
inductive VanOutcome where
  | unlocked
  | lineFail
  | jammed
  | lost
deriving DecidableEq, Repr

/-- One granted dock of a MANIFEST_RELEASE, with its outcome when it has one (R122). -/
structure VanEntry where
  dock    : DockNo
  outcome : Option VanOutcome
deriving DecidableEq, Repr

/-- A MANIFEST_RELEASE whose reply is owed to the service port (R121, R122). -/
structure VanRequest where
  tag     : BitVec 2
  entries : List VanEntry
deriving DecidableEq, Repr

/-! ## The fault unit -/

/-- Where a fault report came from (R135). -/
inductive FaultSource where
  | postKey
  | kiosk
  | line
  | lock
  | tag
  | crew
  | central
deriving DecidableEq, Repr

/-- A fault record; `sent` is its state, OPEN or SENT (R135). -/
structure FaultRecord where
  number   : Nat
  sent     : Bool
  source   : FaultSource
  code     : Nat
  first    : Time
  dock     : Option DockNo
  bike     : Option Nat
  reporter : Option Serial
  repeats  : Nat
deriving DecidableEq, Repr

/-- An entry of the policy table (R140). -/
inductive Policy where
  | quarantine
  | reportOnly
  | fixedMark
  | fixedNone
deriving DecidableEq, Repr

/-- The cold policy table, the entry of code `c` at index `c - 1` (R140). -/
def Policy.coldTable : Vector Policy 15 :=
  #v[.quarantine, .quarantine, .quarantine, .quarantine, .quarantine, .quarantine, .reportOnly, .reportOnly,
    .reportOnly, .fixedNone, .fixedMark, .fixedMark, .quarantine, .fixedNone, .fixedNone]

/-- The fault queue, oldest first, the next fault number, the discarded count and the policy table (R136, R140, R143). -/
structure FaultUnit where
  queue     : List FaultRecord
  next      : Nat
  discarded : Nat
  policy    : Vector Policy 15
deriving DecidableEq, Repr

/-! ## The ports -/

/-- The reply statuses (R191). -/
inductive Status where
  | ok
  | clamped
  | notPermitted
  | badRequest
  | checksum
  | notCommissioned
  | unknownCard
  | denied
  | suspended
  | expired
  | limit
  | lowBalance
  | notAvailable
  | journalFull
  | tableFull
  | duplicate
  | dockBusy
  | noSlot
  | busy
  | notStaff
  | range
  | notFound
  | lineFail
  | tagFail
deriving DecidableEq, Repr

/-- The reasons of NOT_AVAILABLE (R25, R191). -/
inductive Reason where
  | unmapped
  | lost
  | verify
  | jammed
  | empty
  | releasing
  | arriving
  | held
  | pending
  | staleTag
  | bikeFault
  | noneFree
deriving DecidableEq, Repr

/-- What a block answers to a request.  `content` is present for a reply that goes as REPLY (R154, R191). -/
structure Answer where
  status  : Status
  reason  : Option Reason := none
  content : Option (List Byte) := none
deriving DecidableEq, Repr

/-- A reply frame in an outbound queue, known by the tag of its request (R161). -/
structure Reply where
  tag    : BitVec 2
  answer : Answer
deriving DecidableEq, Repr

/-- The tables a cursor stands on (R165). -/
inductive CursorTable where
  | docks
  | map
  | tariffs
  | cards
deriving DecidableEq, Repr

/-- The step modes of a cursor (R165). -/
inductive StepMode where
  | none
  | onReadAndWrite
  | onWriteOnly
deriving DecidableEq, Repr

/-- A port's cursor (R165). -/
structure Cursor where
  table : CursorTable
  index : Nat
  mode  : StepMode
deriving DecidableEq, Repr

/-- One port unit.  `tags` has a bit for each tag in use; `flags` and `masks` have the ten notice flags' bits of R190 (bit 0,
DOCK_CHANGE, is not stored and stays 0 in `flags`); `dockFlags` and `dockMasks` have a bit for each dock.  `selected` says
that a select is in progress: a frame was clocked since select was last released.  `discarding` says that the rest of the
select's input bytes is discarded: an uncorrectable header has ended the port's reading of it (R156), or the part started
in it (R174).  `lastOut` is the last frame clocked out. DESIGN CHOICE: assumptions 15 and 45. -/
structure Port where
  tags         : BitVec 4
  queue        : List Reply
  cursor       : Cursor
  flags        : BitVec 10
  masks        : BitVec 10
  dockFlags    : BitVec 64
  dockMasks    : BitVec 64
  corrected    : Nat
  headerErrors : Nat
  selected     : Bool
  discarding   : Bool
  lastOut      : List Byte
deriving DecidableEq, Repr

/-- A port unit at a start that no select is in progress at (R174). -/
def Port.start : Port :=
  { tags := 0, queue := [], cursor := ⟨.docks, 0, .none⟩, flags := 0, masks := BitVec.allOnes 10, dockFlags := 0
    dockMasks := BitVec.allOnes 64, corrected := 0, headerErrors := 0, selected := false
    discarding := false, lastOut := [] }

/-- The three port units. -/
structure Ports where
  kiosk    : Port
  backhaul : Port
  service  : Port
deriving DecidableEq, Repr

/-- The levels of the three select wires: whether each is asserted (R153). -/
structure Selects where
  kiosk    : Bool
  backhaul : Bool
  service  : Bool
deriving DecidableEq, Repr

/-- The level of one port's select. -/
def Selects.at (w : Selects) : PortId → Bool
  | .kiosk => w.kiosk
  | .backhaul => w.backhaul
  | .service => w.service

/-! ## Settings and retention -/

/-- The station settings (R180).  `oddParity` is the line parity ODD. -/
structure Settings where
  stationNumber : Nat
  memberWindow  : Nat
  vanWindow     : Nat
  retractWindow : Nat
  lowFill       : Nat
  attribution   : Nat
  sweepPeriod   : Nat
  replyTimeout  : Nat
  retryLimit    : Nat
  dropThreshold : Nat
  dropWindow    : Nat
  probeInterval : Nat
  idleTimeout   : Nat
  oddParity     : Bool
  parityCheck   : Bool
  sumKiosk      : Bool
  sumBackhaul   : Bool
  sumService    : Bool
deriving DecidableEq, Repr

/-- The cold settings (R180). -/
def Settings.cold : Settings :=
  { stationNumber := 0, memberWindow := 20, vanWindow := 120, retractWindow := 90, lowFill := 0, attribution := 120
    sweepPeriod := 10, replyTimeout := 20, retryLimit := 2, dropThreshold := 6, dropWindow := 30
    probeInterval := 30, idleTimeout := 600, oddParity := true, parityCheck := true, sumKiosk := true
    sumBackhaul := true, sumService := true }

/-- Whether the part runs, is held by RESET with main power present, is in RETAIN, or has main power again and waits for
the release of RESET to start (R183, R184). -/
inductive Mode where
  | run
  | held
  | retain
  | startWaits
deriving DecidableEq, Repr

/-- The kinds of start (R184). -/
inductive StartKind where
  | cold
  | warm
deriving DecidableEq, Repr

/-- The causes of a start (R184). -/
inductive StartCause where
  | power
  | reset
  | restart
deriving DecidableEq, Repr

/-- The start record (R184). -/
structure StartRecord where
  kind  : StartKind
  cause : StartCause
deriving DecidableEq, Repr

/-- A pending restart: its kind, the tag of the first request's reply, and the uptime at which the first request was taken
(R185). -/
structure Restart where
  kind  : StartKind
  tag   : BitVec 2
  taken : Nat
deriving DecidableEq, Repr

/-! ## The state -/

/-- The whole state.  `pending` is the model's queue of commands that wait, first in first out.  `freeUsed` is the model's
count of free values taken (`Config.freeTime`).  `startSelects` is the model's queue of inputs for the starts to come: the levels
of the select wires that each finds, the next start's first (R174).  `clock` absent is the clock unset (R175).  `map` holds each dock's post
address, absent for an invalid entry (R52).  `resetLow` says that RESET was asserted with main power present and has not
been released (R184). -/
structure State where
  pending      : List Instr
  freeUsed     : Nat
  startSelects : List Selects
  clock        : Option Nat
  uptime       : Nat
  mode         : Mode
  resetLow     : Bool
  marker       : Bool
  started      : StartRecord
  restart      : Option Restart
  settings     : Settings
  map          : Vector (Option Nat) 64
  docks        : Vector Dock 64
  line         : Line
  cards        : List Card
  nextGuest    : Nat
  tripSerial   : Nat
  tariffs      : Vector Tariff 8
  journal      : Journal
  manifests    : Vector (Option Manifest) 2
  vanWaits     : List VanRequest
  faults       : FaultUnit
  ports        : Ports
deriving DecidableEq, Repr

/-- Why the part stops with a fault: never.  The spec gives every command an effect, and no command of it ends the part's
work, so no meaning raises one.  Safe: nothing is claimed of a state after a fault. -/
inductive Fault where
deriving DecidableEq, Repr

/-- Why a command is refused. -/
inductive Refusal where
  /-- raised by an arm of `exec` for a command that has no meaning yet; safe, since nothing is claimed of what follows -/
  | notModelled (mnemonic : String)
deriving DecidableEq, Repr

/-- Notice bit 7, CLOCK_UNSET, which a start with the clock unset sets in every port (R168, R190). -/
def Port.coldStart : Port := { Port.start with flags := 0x80#10 }

/-- The state right after the part's first start: a cold start at the first application of main power, whose battery supply
has not held the part (R182, R184, R186). DESIGN CHOICE: assumption 3. -/
def State.reset : State :=
  { pending := [], freeUsed := 0, startSelects := [], clock := none, uptime := 0, mode := .run, resetLow := false
    marker := true, started := ⟨.cold, .power⟩, restart := none, settings := Settings.cold, map := Vector.replicate 64 none
    docks := Vector.replicate 64 Dock.cleared, line := Line.start, cards := [], nextGuest := 1, tripSerial := 0
    tariffs := Vector.replicate 8 Tariff.cold, journal := ⟨[], 1, 0⟩, manifests := Vector.replicate 2 none
    vanWaits := [], faults := ⟨[], 1, 0, Policy.coldTable⟩
    ports := ⟨Port.coldStart, Port.coldStart, Port.coldStart⟩ }

end Sys2Proof.Machine
end

