-- ==== Sys2Proof/Machine/Ops.lean ====
section
/-! DEFINITION. The named operations that every block shares: times, the reads and writes of a dock record, of a lane, of a
port unit and of a manifest line, saturating counts, and the queueing of a reply. -/

namespace Sys2Proof.Machine

/-! ## Counts and clamps -/

/-- The upper end of a 32-bit count: of station time, uptime, trip serials and record numbers (R60, R97, R175). -/
def max32 : Nat := 4294967295

/-- One more, staying at the limit (00_scope, saturation). -/
def satSucc (limit n : Nat) : Nat := min limit (n + 1)

/-- A value clamped to a range: below it the lower end, above it the upper end (00_scope). -/
def clampInt (lo hi v : Int) : Int := max lo (min hi v)

/-- Whether a value lies in a range. -/
def inRange (lo hi v : Int) : Bool := decide (lo ≤ v) && decide (v ≤ hi)

/-- The smallest integer not less than the quotient (4.3). -/
def ceilDiv (x y : Nat) : Nat := (x + y - 1) / y

/-! ## Times -/

/-- The count a time holds, whatever its kind. -/
def Time.value : Time → Nat
  | .clock v => v
  | .uptime v => v

/-- Whether a time is of kind UPTIME (R175). -/
def Time.isUptime : Time → Bool
  | .clock _ => false
  | .uptime _ => true

/-- The order of two recorded times: by value in one kind, and an UPTIME time before a CLOCK time (R26, R175). -/
def Time.earlier : Time → Time → Bool
  | .clock a, .clock b => decide (a < b)
  | .uptime a, .uptime b => decide (a < b)
  | .uptime _, .clock _ => true
  | .clock _, .uptime _ => false

/-- The time a block records now: station time, or uptime while the clock is unset (R175). -/
def now (s : State) : Time :=
  match s.clock with
  | some t => .clock t
  | none => .uptime s.uptime

/-- Whether station time has reached a station time (R57). -/
def clockReached (s : State) (t : Nat) : Bool :=
  match s.clock with
  | some c => decide (t ≤ c)
  | none => false

/-- The station time `delay` after the one given; where the sum passes the end of station time, a free value (assumption
9), which uses up one of the free values. DESIGN CHOICE: assumption 9. -/
def stationTimeAfter (s : State) (base delay : Nat) : Nat × State :=
  if base + delay ≤ max32 then (base + delay, s)
  else ((Config.freeTime s.freeUsed).toNat, { s with freeUsed := s.freeUsed + 1 })

/-- The station is commissioned while the clock is set and the station number is not 0 (R179). -/
def commissioned (s : State) : Bool := s.clock.isSome && s.settings.stationNumber != 0

/-! ## Docks -/

/-- The number painted on the street (R1). -/
def dockNumber (d : DockNo) : Nat := d.val + 1

/-- The dock a number 1-64 names (R1). -/
def dockNamed (n : Nat) : Option DockNo :=
  if h : 1 ≤ n ∧ n ≤ 64 then some ⟨n - 1, by omega⟩ else none

/-- Every dock, in ascending number. -/
def allDocks : List DockNo := List.finRange 64

/-- The dock table's records (R1). -/
abbrev Docks := Vector Dock 64

/-- Changes one record of a dock table. -/
def Docks.update (t : Docks) (d : DockNo) (f : Dock → Dock) : Docks := t.set d.val (f (t.get d)) d.isLt

/-- One dock's record. -/
def State.dock (s : State) (d : DockNo) : Dock := s.docks.get d

/-- Changes one dock's record and nothing else. -/
def State.updDock (s : State) (d : DockNo) (f : Dock → Dock) : State := { s with docks := Docks.update s.docks d f }

/-- Whether a dock is mapped and its post answers (R1). -/
def Dock.online (k : Dock) : Bool := k.mapped && k.link == .online

/-- The bike fields a dock loses when its bike leaves (R6, R11, R17, R18, R20). -/
def Dock.bikeGone (k : Dock) : Dock :=
  { k with bike := none, withheld := false, since := none, mark := none, stale := false, lastReturn := none }

/-- The dock another record of which holds a bike number (R21). -/
def holderOf (s : State) (d : DockNo) (n : Nat) : Option DockNo :=
  allDocks.find? fun e => e != d && (s.dock e).bike == some n

/-! ## The step list -/

/-- WRITE_TAG mark and clear-mark are one kind (R3). -/
def Cmd.isMarking : Cmd → Bool
  | .mark _ => true
  | .clearMark => true
  | _ => false

/-- Whether two commands are of one kind (R3). -/
def Cmd.sameKind : Cmd → Cmd → Bool
  | .query, .query => true
  | .unlock _, .unlock _ => true
  | .lock, .lock => true
  | .stamp _, .stamp _ => true
  | .clear, .clear => true
  | .display _, .display _ => true
  | .probe, .probe => true
  | a, b => a.isMarking && b.isMarking

/-- A command put in a step list: at the tail, unless one of its kind is there; a mark or clear-mark replaces an earlier
one in place (R3). -/
def putStep (c : Cmd) (l : List Cmd) : List Cmd :=
  if l.any c.sameKind then
    if c.isMarking then l.map fun x => if x.isMarking then c else x else l
  else l ++ [c]

/-- Puts a command in a dock's step list (R3). -/
def State.put (s : State) (d : DockNo) (c : Cmd) : State := s.updDock d fun k => { k with steps := putStep c k.steps }

/-! ## Lanes -/

/-- One dock's lane at the line controller. -/
def Line.lane (l : Line) (d : DockNo) : Lane := l.lanes.get d

/-- Changes one lane and nothing else. -/
def Line.updLane (l : Line) (d : DockNo) (f : Lane → Lane) : Line :=
  { l with lanes := l.lanes.set d.val (f (l.lanes.get d)) d.isLt }

/-- One dock's lane. -/
def State.lane (s : State) (d : DockNo) : Lane := s.line.lane d

/-- Changes one lane and nothing else. -/
def State.updLane (s : State) (d : DockNo) (f : Lane → Lane) : State := { s with line := s.line.updLane d f }

/-- The exchange in flight, if there is one. -/
def Line.inFlight (l : Line) : Option Exchange :=
  match l.arbiter with
  | .exchange x => some x
  | .free => none
  | .round _ => none

/-- Whether an exchange for the dock is in flight (R41). -/
def Line.busyWith (l : Line) (d : DockNo) : Bool :=
  match l.inFlight with
  | some x => x.dock == d
  | none => false

/-! ## Ports -/

/-- One port unit. -/
def State.port (s : State) : PortId → Port
  | .kiosk => s.ports.kiosk
  | .backhaul => s.ports.backhaul
  | .service => s.ports.service

/-- Changes one port unit of the three. -/
def Ports.update (t : Ports) (p : PortId) (f : Port → Port) : Ports :=
  match p with
  | .kiosk => { t with kiosk := f t.kiosk }
  | .backhaul => { t with backhaul := f t.backhaul }
  | .service => { t with service := f t.service }

/-- Changes one port unit and nothing else. -/
def State.updPort (s : State) (p : PortId) (f : Port → Port) : State := { s with ports := s.ports.update p f }

/-- A frame is clocked in or out at a port, so its select is asserted; the wire is followed in RETAIN too, where the part
ignores the select (R153, R174). DESIGN CHOICE: assumption 45. -/
def State.select (s : State) (p : PortId) : State := s.updPort p fun q => { q with selected := true }

/-- Changes the three port units in the same way. -/
def Ports.updateAll (t : Ports) (f : Port → Port) : Ports := ⟨f t.kiosk, f t.backhaul, f t.service⟩

/-- Queues a reply at a port, carrying its request's tag (R161). -/
def State.sendReply (s : State) (p : PortId) (tag : BitVec 2) (a : Answer) : State :=
  s.updPort p fun q => { q with queue := q.queue ++ [⟨tag, a⟩] }

/-! ## Manifests -/

/-- The two manifest slots. -/
abbrev Slots := Vector (Option Manifest) 2

/-- Both slots, in order. -/
def bothSlots : List SlotNo := [0, 1]

/-- Changes the manifest in a slot. -/
def Slots.update (t : Slots) (m : SlotNo) (f : Manifest → Manifest) : Slots :=
  t.set m.val ((t.get m).map f) m.isLt

/-- Changes one line of the manifest in a slot. -/
def Slots.updLine (t : Slots) (m : SlotNo) (i : Nat) (f : MLine → MLine) : Slots :=
  Slots.update t m fun x => { x with lines := x.lines.modify i f }

/-- Changes the manifest in a slot and nothing else. -/
def State.updManifest (s : State) (m : SlotNo) (f : Manifest → Manifest) : State :=
  { s with manifests := Slots.update s.manifests m f }

/-- Changes one line of a manifest and nothing else. -/
def State.updLine (s : State) (m : SlotNo) (i : Nat) (f : MLine → MLine) : State :=
  { s with manifests := Slots.updLine s.manifests m i f }

/-- The line a hold names, if its slot holds a manifest that has it. -/
def lineOf (t : Slots) (m : SlotNo) (i : Nat) : Option MLine := (t.get m).bind fun x => x.lines[i]?

/-- The slot of the ACTIVE manifest (R111). -/
def activeSlot (s : State) : Option SlotNo :=
  bothSlots.find? fun m => match s.manifests.get m with
    | some x => x.state == .active
    | none => false

/-- The slot whose manifest has the id (R111). -/
def slotWithId (s : State) (id : Nat) : Option SlotNo :=
  bothSlots.find? fun m => match s.manifests.get m with
    | some x => x.id == id
    | none => false

/-- The lower free slot (R113, R115). -/
def freeSlot (s : State) : Option SlotNo := bothSlots.find? fun m => (s.manifests.get m).isNone

/-! ## Running -/

/-- A command that only a running part takes: while RESET holds the part, in RETAIN, and until a start that waits, no block
takes an event (R153, R183, R184). DEDUCED: assumption 6. -/
def whileRunning (s : State) (f : State → State) : Host.Outcome State Fault Refusal :=
  .next (if s.mode = .run then f s else s)

end Sys2Proof.Machine
end

