-- ==== Sys2Proof/Machine/Charge.lean ====
section
/-! DEFINITION. The ride charge: the duration, the retract test, and the gross, credit and net of an END (chapter 4). -/

namespace Sys2Proof.Machine

/-- The longest duration charged, 72 hours (R86). -/
def longestRide : Nat := 259200

/-- What stage 1 gives: the duration with the flags SKEW and LONG (R86). -/
structure RideTime where
  seconds : Nat
  skew    : Bool
  long    : Bool
deriving DecidableEq, Repr

/-- Stage 1 (R86). -/
def rideTime (start arrival : Nat) : RideTime :=
  if arrival < start then ⟨0, true, false⟩
  else if longestRide < arrival - start then ⟨longestRide, false, true⟩
  else ⟨arrival - start, false, false⟩

/-- The retract test (R85), with the settings in force. -/
def retractHolds (s : Settings) (t : Stamp) (arrival : Nat) : Bool :=
  s.stationNumber != 0 && s.stationNumber == t.station && s.retractWindow != 0
    && decide ((rideTime t.start arrival).seconds < s.retractWindow)

/-- What the charge unit hands back (R89). -/
structure ChargeResult where
  time       : RideTime
  gross      : Nat
  capped     : Bool
  credit     : Nat
  creditFlag : Bool
  net        : Nat
deriving DecidableEq, Repr

/-- Stages 3 to 6: the gross before the cap (R87). -/
def grossBeforeCap (t : Tariff) (seconds : Nat) : Nat :=
  ceilDiv (ceilDiv seconds 60 - t.free) t.block * t.price

/-- The number of days started, taken as 1 for a duration of 0 (R88). -/
def daysStarted (seconds : Nat) : Nat := max 1 (ceilDiv seconds 86400)

/-- Stage 7: the gross after the day cap (R88). -/
def grossAfterCap (t : Tariff) (seconds : Nat) : Nat :=
  if t.cap = 0 then grossBeforeCap t seconds
  else min (grossBeforeCap t seconds) (daysStarted seconds * t.cap)

/-- The charge of an END record (R86 to R89). -/
def rideCharge (t : Tariff) (start arrival : Nat) (lowFill : Bool) : ChargeResult :=
  let d := rideTime start arrival
  let g := grossAfterCap t d.seconds
  let credited := lowFill && decide (0 < t.credit)
  let q := if credited then min t.credit g else 0
  { time := d, gross := g, capped := decide (g < grossBeforeCap t d.seconds), credit := q
    creditFlag := credited, net := g - q }

end Sys2Proof.Machine
end

