-- ==== Sys2Proof/Machine/CardTable.lean ====
section
/-! DEFINITION. The card table: finding, storing and removing entries in ascending serial (R57, R58), the guest numbers
(R59), the trip serial counter (R60), and the changes that rides make to an entry (R77, R78, R90, R91). -/

namespace Sys2Proof.Machine

/-- How many entries the table holds when it is full (R58). -/
def cardCapacity : Nat := 512

/-- The limits of a balance and of a deposit, in cents (R57). -/
def minBalance : Int := -100000
def maxBalance : Int := 10000000
def maxDeposit : Int := 50000

/-- The entry with a serial (R58). -/
def findCard (s : State) (serial : Serial) : Option Card := s.cards.find? fun c => c.serial == serial

/-- An entry stored at the place its serial takes in the order; an entry with the same serial is replaced (R58). -/
def insertCard (c : Card) : List Card → List Card
  | [] => [c]
  | x :: xs =>
    if c.serial.toNat < x.serial.toNat then c :: x :: xs
    else if c.serial = x.serial then c :: xs
    else x :: insertCard c xs

/-- Stores an entry (R58). -/
def State.putCard (s : State) (c : Card) : State := { s with cards := insertCard c s.cards }

/-- Removes the entry with a serial (R58, R66). -/
def State.dropCard (s : State) (serial : Serial) : State :=
  { s with cards := s.cards.filter fun c => c.serial != serial }

/-- Whether an entry is of kind GUEST. -/
def Card.isGuest (c : Card) : Bool := match c.body with
  | .guest _ _ _ _ => true
  | .member _ _ _ _ => false
  | .staff _ => false

/-- Whether an entry is of kind STAFF. -/
def Card.isStaff (c : Card) : Bool := match c.body with
  | .staff _ => true
  | .member _ _ _ _ => false
  | .guest _ _ _ _ => false

/-- Whether station time has reached an entry's expiry (R57). -/
def cardExpired (s : State) (c : Card) : Bool := match c.expiry with
  | some t => clockReached s t
  | none => false

/-- Stores an entry whose trips out changed: a GUEST whose trips out is 0 and whose expiry has been reached is removed
instead (R69). -/
def State.storeTrips (s : State) (c : Card) : State :=
  if c.isGuest && c.trips == 0 && cardExpired s c then s.dropCard c.serial else s.putCard c

/-! ## Numbers -/

/-- Whether a GUEST entry carries a guest number (R59). -/
def guestNumberTaken (cs : List Card) (n : Nat) : Bool := cs.any fun c => match c.body with
  | .guest g _ _ _ => g == n
  | .member _ _ _ _ => false
  | .staff _ => false

/-- The number after `n` in 1-65,535, cyclically (R59, R136). -/
def nextNumber (n : Nat) : Nat := if 65535 ≤ n then 1 else n + 1

/-- The first number at or after `n`, cyclically, that is not taken (R59, R136); `fuel` bounds the search and exceeds the
number of entries that could take one. -/
def firstFree (taken : Nat → Bool) : Nat → Nat → Nat
  | 0, n => n
  | fuel + 1, n => if taken n then firstFree taken fuel (nextNumber n) else n

/-- The guest number GUEST_ISSUE gives (R59). -/
def guestNumber (s : State) : Nat := firstFree (guestNumberTaken s.cards) (s.cards.length + 1) s.nextGuest

/-- The trip serial the next grant gets: the counter plus 1, and 1 after its upper end (R60). -/
def nextTrip (s : State) : Nat := if max32 ≤ s.tripSerial then 1 else s.tripSerial + 1

/-! ## Rides -/

/-- Trips out goes up by 1 at a rental removal, for a MEMBER or GUEST entry (R77). -/
def State.raiseTrips (s : State) (serial : Serial) : State :=
  match findCard s serial with
  | some c => if c.isStaff then s else s.putCard { c with trips := satSucc 7 c.trips }
  | none => s

/-- The entry a stamp's settlement changes: present, and of the kind the stamp names (R78). -/
def settledCard (s : State) (t : Stamp) : Option Card :=
  match findCard s t.serial with
  | some c => match c.body with
    | .member _ _ _ _ => if t.guest then none else some c
    | .guest _ _ _ _ => if t.guest then some c else none
    | .staff _ => none
  | none => none

/-- What a deduction took, with its flag FLOOR or SHORTFALL, and what is left (R90, R91). -/
structure Deduction where
  left      : Int
  deducted  : Nat
  floor     : Bool
  shortfall : Bool
deriving DecidableEq, Repr

/-- The deduction from a member's balance (R90). -/
def deductMember (balance : Int) (net : Nat) : Deduction :=
  if minBalance ≤ balance - net then ⟨balance - net, net, false, false⟩
  else ⟨minBalance, (balance - minBalance).toNat, true, false⟩

/-- The deduction from a guest's deposit (R91). -/
def deductGuest (deposit : Int) (net : Nat) : Deduction :=
  if 0 ≤ deposit - net then ⟨deposit - net, net, false, false⟩
  else ⟨0, deposit.toNat, false, true⟩

/-- The deduction of a net charge from an entry, and the entry's body after it, its last charge the net (R90, R91). -/
def deductBody (b : CardBody) (net : Nat) : Deduction × CardBody :=
  match b with
  | .member n p bal _ => let d := deductMember bal net; (d, .member n p d.left (some net))
  | .guest n p dep _ => let d := deductGuest dep net; (d, .guest n p d.left (some net))
  | .staff n => (⟨0, 0, false, false⟩, .staff n)

/-- The body of an entry whose ride was retracted: its last charge is 0 (R78, R85). -/
def retractBody : CardBody → CardBody
  | .member n p b _ => .member n p b (some 0)
  | .guest n p d _ => .guest n p d (some 0)
  | .staff n => .staff n

/-- The card's side of an admitted END: the deduction, trips out down by 1, last charge the net, last use the record's time;
an entry absent or of another kind is not charged (R78). -/
def State.chargeCard (s : State) (t : Stamp) (net time : Nat) : State × Option Deduction :=
  match settledCard s t with
  | some c =>
    let r := deductBody c.body net
    (s.storeTrips { c with body := r.2, trips := c.trips - 1, lastUse := some time }, some r.1)
  | none => (s, none)

/-- The card's side of an admitted RETRACT (R78). -/
def State.retractCard (s : State) (t : Stamp) (time : Nat) : State :=
  match settledCard s t with
  | some c => s.storeTrips { c with body := retractBody c.body, trips := c.trips - 1, lastUse := some time }
  | none => s

/-! ## Rentals in progress -/

/-- Whether a release is a RENTAL naming a card (R71). -/
def Release.rents (r : Release) (serial : Serial) : Bool := match r.purpose with
  | .rental t _ => t.serial == serial
  | .van _ _ _ => false

/-- How many dock records hold a release or verify context that is a RENTAL naming the card (R71). -/
def rentalsInProgress (s : State) (serial : Serial) : Nat :=
  (allDocks.filter fun d =>
    ((s.dock d).release.any fun r => r.rents serial) || ((s.dock d).verifyCtx.any fun r => r.rents serial)).length

end Sys2Proof.Machine
end

