-- ==== Sys2Proof/Machine/Flags.lean ====
section
/-! DEFINITION. The notice flags and the dock change flags of the port units, the conditions behind them, the DOCK_CHANGE
flag and the attention output (chapter 8.5, R29, R109, R144). -/

namespace Sys2Proof.Machine

/-! ## Notice bits (R190) -/

def noticeDockChange : Nat := 0
def noticeJournalHigh : Nat := 1
def noticeJournalFull : Nat := 2
def noticeFaultNew : Nat := 3
def noticeFaultBacklog : Nat := 4
def noticeFaultOverflow : Nat := 5
def noticeManifest : Nat := 6
def noticeClockUnset : Nat := 7
def noticeLinkError : Nat := 8
def noticeTagClash : Nat := 9

/-- The word of ten notice bits with one bit set. -/
def noticeBit (i : Nat) : BitVec 10 := BitVec.ofNat 10 (2 ^ i)

/-- The word of 64 dock bits with one dock's bit set: dock `d` at bit `d - 1` (R190). -/
def dockBit (d : DockNo) : BitVec 64 := BitVec.ofNat 64 (2 ^ d.val)

/-- Sets a notice flag of a port unit (R168). -/
def Port.notice (p : Port) (i : Nat) : Port := { p with flags := p.flags ||| noticeBit i }

/-- Sets a notice flag in one port (R156, R158, R159). -/
def State.noticeAt (s : State) (p : PortId) (i : Nat) : State := s.updPort p fun q => q.notice i

/-- Sets a notice flag in all three ports (R109, R133, R144, R168). -/
def State.noticeAll (s : State) (i : Nat) : State := { s with ports := s.ports.updateAll fun q => q.notice i }

/-! ## Conditions -/

/-- Records held plus slots reserved (R98). -/
def Journal.used (j : Journal) : Nat := j.records.length + j.reserved

/-- The JOURNAL_HIGH condition (R109). -/
def journalHigh (s : State) : Bool := decide (192 ≤ s.journal.used)

/-- The JOURNAL_FULL condition: held plus reserved is 256 (R109).  At or above it, since R95 keeps the sum within 256. -/
def journalFull (s : State) : Bool := decide (256 ≤ s.journal.used)

/-- How many fault records are OPEN (R144). -/
def openFaults (s : State) : Nat := (s.faults.queue.filter fun r => !r.sent).length

/-- 32 or more records are OPEN (R144). -/
def faultBacklog (s : State) : Bool := decide (32 ≤ openFaults s)

/-- The CLOCK_UNSET condition (R168). -/
def clockUnset (s : State) : Bool := s.clock.isNone

/-- The condition flags whose condition holds, as notice bits (R168). -/
def standingConditions (s : State) : BitVec 10 :=
  (if journalHigh s then noticeBit noticeJournalHigh else 0)
    ||| (if journalFull s then noticeBit noticeJournalFull else 0)
    ||| (if clockUnset s then noticeBit noticeClockUnset else 0)

/-- Sets a notice in all ports when a condition holds now and did not before. -/
def State.noticeRise (s : State) (before after : Bool) (i : Nat) : State :=
  if after && !before then s.noticeAll i else s

/-- The condition and backlog notices at the end of a step, by what held at its start (R109, R144). -/
def State.riseNotices (s : State) (high full backlog : Bool) : State :=
  let s1 := s.noticeRise high (journalHigh s) noticeJournalHigh
  let s2 := s1.noticeRise full (journalFull s) noticeJournalFull
  s2.noticeRise backlog (faultBacklog s) noticeFaultBacklog

/-! ## Dock change flags -/

/-- Whether a change to a dock record is one that R29 names. -/
def dockChanged (a b : Dock) : Bool :=
  a.mapped != b.mapped || a.custody != b.custody || a.link != b.link || a.bike != b.bike || a.hold != b.hold
    || a.mark != b.mark || a.stale != b.stale

/-- The bits of the docks whose record changed in a field R29 names. -/
def changedDocks (before after : Docks) : BitVec 64 :=
  allDocks.foldl (fun w d => if dockChanged (before.get d) (after.get d) then w ||| dockBit d else w) 0

/-- Sets in all three ports the dock change flags of the docks that changed (R29). -/
def State.flagDocks (s : State) (before : Docks) : State :=
  let w := changedDocks before s.docks
  { s with ports := s.ports.updateAll fun q => { q with dockFlags := q.dockFlags ||| w } }

/-! ## DOCK_CHANGE and attention -/

/-- DOCK_CHANGE in a port: some dock change flag is set with its mask clear (R169). -/
def Port.dockChange (p : Port) : Bool := (p.dockFlags &&& ~~~p.dockMasks) != 0

/-- The ten notice flags as they are read, DOCK_CHANGE as derived (R171). -/
def Port.readFlags (p : Port) : BitVec 10 :=
  (p.flags &&& ~~~(noticeBit noticeDockChange)) ||| (if p.dockChange then noticeBit noticeDockChange else 0)

/-- The attention output of a port: its queue is not empty, or a flag is set with its mask clear; released while the part
does not run (R153, R173, R184). DESIGN CHOICE: assumption 15. -/
def attention (s : State) (p : PortId) : Bool :=
  s.mode == .run && ((s.port p).queue != [] || ((s.port p).readFlags &&& ~~~(s.port p).masks) != 0)

end Sys2Proof.Machine
end

