-- ==== Sys2Proof/Machine/FaultQueue.lean ====
section
/-! DEFINITION. The fault queue: policy, merging, admission, eviction and discarding of reports (chapter 7.3, 7.4). -/

namespace Sys2Proof.Machine

/-- How many records the queue holds when it is full (R136). -/
def faultCapacity : Nat := 64

/-- A report on its way to the queue (R137). -/
structure Report where
  source   : FaultSource
  code     : Nat
  dock     : Option DockNo
  bike     : Option Nat
  reporter : Option Serial
deriving DecidableEq, Repr

/-- The outcome of admission (R139). -/
inductive Admission where
  | new
  | merged
  | discarded
deriving DecidableEq, Repr

/-- The policy entry of a code 1-15 (R140). -/
def FaultUnit.policyOf (u : FaultUnit) (code : Nat) : Policy :=
  if h : 1 ≤ code ∧ code ≤ 15 then u.policy.get ⟨code - 1, by omega⟩ else .fixedNone

/-- The codes whose policy entry can be written (R140). -/
def policyWritable (code : Nat) : Bool := (1 ≤ code && code ≤ 9) || code == 13

/-- Writes a policy entry (R140). -/
def FaultUnit.setPolicy (u : FaultUnit) (code : Nat) (p : Policy) : FaultUnit :=
  if h : 1 ≤ code ∧ code ≤ 15 then { u with policy := u.policy.set (code - 1) p (by omega) } else u

/-- Whether an OPEN record is of the same fault as a report (R136, R142). -/
def Report.matches (r : Report) (x : FaultRecord) : Bool :=
  !x.sent && x.dock == r.dock && x.bike == r.bike && x.code == r.code

/-- Raises the repeats of the first record that matches (R142). -/
def mergeInto (r : Report) : List FaultRecord → List FaultRecord
  | [] => []
  | x :: xs => if r.matches x then { x with repeats := satSucc 15 x.repeats } :: xs else x :: mergeInto r xs

/-- The queue less its oldest SENT record (R143). -/
def evictOldest : List FaultRecord → List FaultRecord
  | [] => []
  | x :: xs => if x.sent then xs else x :: evictOldest xs

/-- Whether a record in the queue carries a fault number (R136). -/
def faultNumberTaken (q : List FaultRecord) (n : Nat) : Bool := q.any fun x => x.number == n

/-- The number a new record gets (R136). -/
def faultNumber (u : FaultUnit) (q : List FaultRecord) : Nat :=
  firstFree (faultNumberTaken q) (q.length + 1) u.next

/-- A new OPEN record joins the newest end of a queue that has room; FAULT_NEW is set in all ports (R143, R144). -/
def State.joinFault (s : State) (r : Report) (q : List FaultRecord) : State × Admission × Nat :=
  let n := faultNumber s.faults q
  let x : FaultRecord :=
    { number := n, sent := false, source := r.source, code := r.code, first := now s, dock := r.dock
      bike := r.bike, reporter := r.reporter, repeats := 1 }
  ({ s with faults := { s.faults with queue := q ++ [x], next := nextNumber n } }.noticeAll noticeFaultNew, .new, n)

/-- Takes a report into the queue: it merges, joins with or without an eviction, or is discarded (R142, R143).  The number
is that of the record made or merged into, 0 for a discard (R139). -/
def State.takeReport (s : State) (r : Report) : State × Admission × Nat :=
  match s.faults.queue.find? r.matches with
  | some x => ({ s with faults := { s.faults with queue := mergeInto r s.faults.queue } }, .merged, x.number)
  | none =>
    if s.faults.queue.length < faultCapacity then s.joinFault r s.faults.queue
    else if s.faults.queue.any fun x => x.sent then s.joinFault r (evictOldest s.faults.queue)
    else
      ({ s with faults := { s.faults with discarded := satSucc 255 s.faults.discarded } }.noticeAll
        noticeFaultOverflow, .discarded, 0)

/-- Reports a fault of the part's own (R137). -/
def State.report (s : State) (source : FaultSource) (code : Nat) (d : DockNo) (bike : Option Nat) : State :=
  (s.takeReport { source, code, dock := some d, bike, reporter := none }).1

end Sys2Proof.Machine
end

