-- ==== Sys2Proof/Machine/Holds.lean ====
section
/-! DEFINITION. Holds on docks for manifest lines: placing and dropping them (R116), the candidates of a line (R117, R118),
the refill pass (R119), and the test of a hold whose dock has changed (R120). -/

namespace Sys2Proof.Machine

/-- A line is short when reserved plus done is less than asked (R112). -/
def MLine.short (l : MLine) : Bool := decide (l.reserved + l.done < l.asked)

/-- The dock table and the manifest slots, which holds tie together. -/
structure Holding where
  docks : Docks
  slots : Slots
deriving DecidableEq, Repr

/-- The dock table and the slots of a state. -/
def State.holding (s : State) : Holding := ⟨s.docks, s.manifests⟩

/-- A state with its dock table and slots replaced. -/
def State.withHolding (s : State) (h : Holding) : State := { s with docks := h.docks, manifests := h.slots }

/-- Places a hold and raises the line's reserved count, in one step (R116). -/
def Holding.place (x : Holding) (d : DockNo) (m : SlotNo) (i : Nat) : Holding :=
  { docks := Docks.update x.docks d fun k => { k with hold := some ⟨m, i⟩ }
    slots := Slots.updLine x.slots m i fun l => { l with reserved := l.reserved + 1 } }

/-- Drops a dock's hold, if it has one, and lowers the reserved count of the line it named (R116). -/
def Holding.drop (x : Holding) (d : DockNo) : Holding :=
  match (x.docks.get d).hold with
  | none => x
  | some h =>
    { docks := Docks.update x.docks d fun k => { k with hold := none }
      slots := Slots.updLine x.slots h.slot h.line fun l => { l with reserved := l.reserved - 1 } }

/-- Drops a dock's hold in a state (R116). -/
def State.dropHold (s : State) (d : DockNo) : State := s.withHolding (s.holding.drop d)

/-! ## Candidates -/

/-- Whether a dock passes a LOAD line's filter (R117). -/
def Filter.passes (f : Filter) (k : Dock) : Bool := match f with
  | .any => true
  | .healthy => k.mark.isNone
  | .faulty => k.mark.isSome

/-- A LOAD candidate for a filter (R117). -/
def loadCandidate (f : Filter) (k : Dock) : Bool :=
  k.online && k.custody == .docked && k.hold.isNone && k.settle.isNone && !k.stale && f.passes k

/-- An UNLOAD candidate (R118). -/
def unloadCandidate (k : Dock) : Bool := k.online && k.custody == .empty && k.hold.isNone && k.settle.isNone

/-- Whether one docked since comes before another; an absent one, which no docked bike has, comes before all (R26). -/
def sinceEarlier : Option Time → Option Time → Bool
  | some a, some b => a.earlier b
  | none, some _ => true
  | _, none => false

/-- Whether a docked bike comes before another in the order of R117: the marked before the unmarked, then by docked since. -/
def takenBefore (a b : Dock) : Bool :=
  if a.mark.isSome != b.mark.isSome then a.mark.isSome else sinceEarlier a.since b.since

/-- The dock that comes first in the order of R117 among those that qualify; the lowest number wins a tie (R26, R117). -/
def firstTaken (t : Docks) (ok : Dock → Bool) : Option DockNo :=
  allDocks.foldl (fun best d =>
    if ok (t.get d) then
      match best with
      | none => some d
      | some e => if takenBefore (t.get d) (t.get e) then some d else some e
    else best) none

/-- The first candidate for a line, in the line's own order (R117, R118). -/
def firstCandidate (t : Docks) (l : MLine) : Option DockNo := match l.action with
  | .load => firstTaken t (loadCandidate l.filter)
  | .unload => allDocks.find? fun d => unloadCandidate (t.get d)

/-! ## The refill pass -/

/-- Gives one line its candidates while it is short; `fuel` bounds the number of holds, which no more than 64 docks can
take (R119). -/
def refillLine (m : SlotNo) (i : Nat) : Nat → Holding → Holding
  | 0, x => x
  | fuel + 1, x =>
    match lineOf x.slots m i with
    | none => x
    | some l =>
      if l.short then
        match firstCandidate x.docks l with
        | none => x
        | some d => refillLine m i fuel (x.place d m i)
      else x

/-- The lines of one slot, in line order; a free slot and a CLOSING manifest are passed over (R119). -/
def refillSlot (x : Holding) (m : SlotNo) : Holding :=
  match x.slots.get m with
  | none => x
  | some f =>
    if f.state = .closing then x
    else (List.range f.lines.length).foldl (fun y i => refillLine m i 64 y) x

/-- The refill pass: slot 0 first, then slot 1 (R119). -/
def refillPass (x : Holding) : Holding := bothSlots.foldl refillSlot x

/-! ## Van releases -/

/-- Whether a release is a van release for a slot. -/
def Release.loads (r : Release) (m : SlotNo) : Bool := match r.purpose with
  | .van q _ _ => q == m
  | .rental _ _ => false

/-- Whether a release is a van release. -/
def Release.isVan (r : Release) : Bool := match r.purpose with
  | .van _ _ _ => true
  | .rental _ _ => false

/-- A dock in RELEASING with a VAN release context, or in VERIFY with a VAN verify context (R111, R131). -/
def Dock.inVanRelease (k : Dock) : Bool :=
  (k.custody == .releasing && k.release.any Release.isVan) || (k.custody == .verify && k.verifyCtx.any Release.isVan)

/-- A van release of a slot's manifest is in progress at the dock (R131). -/
def Dock.inVanReleaseOf (k : Dock) (m : SlotNo) : Bool :=
  (k.custody == .releasing && k.release.any fun r => r.loads m)
    || (k.custody == .verify && k.verifyCtx.any fun r => r.loads m)

/-- Whether any van release of a slot's manifest is in progress (R131). -/
def vanInProgress (t : Docks) (m : SlotNo) : Bool := allDocks.any fun d => (t.get d).inVanReleaseOf m

/-- The van releases open count: the docks in RELEASING with purpose VAN (R111). -/
def vanReleasesOpen (t : Docks) : Nat :=
  (allDocks.filter fun d => (t.get d).custody == .releasing && (t.get d).release.any Release.isVan).length

/-! ## The test of a hold -/

/-- Whether a dock still fits the line its hold names (R120).  A van release in progress is not tested while it runs; any
other hold of a CLOSING manifest is dropped (R124, R130). -/
def holdStays (t : Slots) (k : Dock) (h : Hold) : Bool :=
  if k.inVanRelease then true
  else
    match t.get h.slot with
    | none => true
    | some f =>
      if f.state = .closing then false
      else
        match f.lines[h.line]? with
        | none => true
        | some l => match l.action with
          | .load => k.custody != .arriving && !k.stale && l.filter.passes k
          | .unload => k.custody != .docked

/-- Tests one dock's hold and drops it where the dock no longer fits (R120). -/
def testHold (x : Holding) (d : DockNo) : Holding :=
  match (x.docks.get d).hold with
  | none => x
  | some h => if holdStays x.slots (x.docks.get d) h then x else x.drop d

/-- Tests every hold (R120). -/
def testHolds (x : Holding) : Holding := allDocks.foldl testHold x

/-- Restarts the idle deadline of a manifest, if it is ACTIVE (R128). DESIGN CHOICE: assumption 10. -/
def State.restartIdle (s : State) (m : SlotNo) : State :=
  s.updManifest m fun f =>
    if f.state = .active then { f with idleAt := some (s.uptime + s.settings.idleTimeout) } else f

end Sys2Proof.Machine
end

