-- ==== Sys2Proof/Machine/JournalOps.lean ====
section
/-! DEFINITION. The journal: reservations and conversions (R98, R99), the admission of arrival and close records (R100, R105,
R106), the settlement of a locked arrival (R16, R84), the drain (R104), and the renumbering of an empty journal (R97). -/

namespace Sys2Proof.Machine

/-! ## Room and numbers -/

/-- The remaining numbers (R97). -/
def Journal.remaining (j : Journal) : Nat := 4294967296 - j.next

/-- Whether the remaining numbers allow a reservation or an admission (R97). -/
def Journal.numbersAllow (j : Journal) : Bool := decide (j.reserved + 1 ≤ j.remaining)

/-- Whether a grant's slot can be reserved (R98). -/
def Journal.canReserve (j : Journal) : Bool := decide (j.used < 192) && j.numbersAllow

/-- Whether an arrival or close record can be admitted (R100). -/
def Journal.hasRoom (j : Journal) : Bool := decide (j.used < 256) && j.numbersAllow

/-- A record joins the newest end with the next record number (R97). DEDUCED: assumption 39. -/
def Journal.append (j : Journal) (body : JournalBody) (time : Time) (dock bike : Nat) (flags : JournalFlags) : Journal :=
  { j with records := j.records ++ [{ number := j.next, body, time, dock, bike, flags }], next := j.next + 1 }

/-- A record joins the journal and nothing else changes. -/
def State.record (s : State) (body : JournalBody) (time : Time) (dock bike : Nat) (flags : JournalFlags) : State :=
  { s with journal := s.journal.append body time dock bike flags }

/-- Reserves a slot (R98). -/
def State.reserve (s : State) : State := { s with journal := { s.journal with reserved := s.journal.reserved + 1 } }

/-- Gives one reserved slot up (R99). -/
def State.unreserve (s : State) : State := { s with journal := { s.journal with reserved := s.journal.reserved - 1 } }

/-- Turns a reserved slot into a record (R99). -/
def State.convert (s : State) (body : JournalBody) (time : Time) (dock bike : Nat) (flags : JournalFlags) : State :=
  s.unreserve.record body time dock bike flags

/-- At the end of a step that leaves the journal with no record and no reserved slot, a next record number near its end
becomes 1 (R97). -/
def Journal.renumber (j : Journal) : Journal :=
  if j.records.isEmpty && j.reserved == 0 && decide (4294967040 < j.next) then { j with next := 1 } else j

/-! ## Admission of arrival records -/

/-- Whether an arrival record may be offered and finds room: its time is a station time, and R100's test holds (R100,
R102). -/
def admits (j : Journal) (e : Settle) : Bool := !e.time.isUptime && j.hasRoom

/-- The flags of an END record (R96, 4.6). -/
def endFlags (c : ChargeResult) (d : Option Deduction) (deferred clockLate : Bool) : JournalFlags :=
  { skew := c.time.skew, long := c.time.long, capped := c.capped, credit := c.creditFlag, remoteCard := d.isNone
    shortfall := d.any Deduction.shortfall, floor := d.any Deduction.floor, deferred, clockLate }

/-- Admits an END: the charge from the tariff of the stamp's plan as it stands, the change of the card entry, and the
record (R78, R92, R100). -/
def State.admitEnd (s : State) (d : DockNo) (e : Settle) (t : Stamp) (deferred : Bool) : State :=
  let c := rideCharge (s.tariffs.get t.plan) t.start e.time.value e.lowFill
  let r := s.chargeCard t c.net e.time.value
  r.1.record (.ended t c.time.seconds c.gross c.credit c.net (match r.2 with
      | some x => x.deducted
      | none => 0))
    e.time (dockNumber d) e.bike (endFlags c r.2 deferred e.clockLate)

/-- Admits the record of an arrival at a dock, with its consequences at the card store (R100, R105). -/
def State.settleAs (s : State) (d : DockNo) (e : Settle) (deferred : Bool) : State := match e.what with
  | .ended _ t => s.admitEnd d e t deferred
  | .retract t =>
    (s.retractCard t e.time.value).record (.retract t.serial t.trip (rideTime t.start e.time.value).seconds) e.time
      (dockNumber d) e.bike { deferred, clockLate := e.clockLate }
  | .vanIn m => s.record (.vanIn m) e.time (dockNumber d) e.bike { deferred, clockLate := e.clockLate }

/-- What a locked arrival settles with (R16).  Its bike number is the record's, so 0 where another dock has taken the number
since the arrival (R21). DESIGN CHOICE: assumption 40. -/
def settleOf (k : Dock) (a : Arrival) (l : Locked) : Settle :=
  { what := l.what, time := a.time, clockLate := a.clockLate, lowFill := a.lowFill, bike := k.bike.getD 0 }

/-- The dock of a settled arrival: DOCKED since the LOCKED reply, its arrival context cleared, with a settle pending mark
where the record was not admitted (R16). -/
def Dock.settled (k : Dock) (l : Locked) (pending : Option Settle) : Dock :=
  { k with custody := .docked, since := some l.at_, arrival := none, settle := pending }

/-- Settlement of a locked arrival whose dock has no older record: admitted, or made settle pending (R16, R100, R101).
The second part says whether it was admitted. -/
def State.settleArrival (s : State) (d : DockNo) (deferred : Bool) : State × Bool :=
  match (s.dock d).arrival with
  | none => (s, true)
  | some a =>
    match a.locked with
    | none => (s, true)
    | some l =>
      let e := settleOf (s.dock d) a l
      if admits s.journal e then ((s.settleAs d e deferred).updDock d fun k => k.settled l none, true)
      else (s.updDock d fun k => k.settled l (some e), false)

/-! ## The drain -/

/-- Offers one dock of the settle-pending list, with a newer arrival that waits behind it; the second part says that the
pass has stopped for want of room (R104, R105). DEDUCED: assumption 19. -/
def drainDock (x : State × Bool) (d : DockNo) : State × Bool :=
  if x.2 then x
  else
    match (x.1.dock d).settle with
    | none => x
    | some e =>
      if e.time.isUptime then x
      else if x.1.journal.hasRoom then
        let r := ((x.1.settleAs d e true).updDock d fun k => { k with settle := none }).settleArrival d true
        (r.1, !r.2 && !r.1.journal.hasRoom)
      else (x.1, true)

/-- The line summaries of a VAN_CLOSE record, as they stand (R131). -/
def lineSummary (l : MLine) : LineSummary :=
  { action := l.action, asked := l.asked, reservedAtClose := l.reservedAtClose.getD 0, done := l.done
    displaced := l.displaced }

/-- Admits a manifest's VAN_CLOSE and frees its slot; MANIFEST is set (R106, R131, R133). -/
def State.admitClose (s : State) (m : SlotNo) (x : Manifest) : State :=
  let r := s.record (.vanClose x.id (x.reason.getD .done) (x.lines.map lineSummary)) (now s) 0 0
    { clockLate := (now s).isUptime }
  { r with manifests := r.manifests.set m.val none m.isLt }.noticeAll noticeManifest

/-- Offers the waiting VAN_CLOSE of a slot; the second part says that the pass has stopped (R104). -/
def drainClose (x : State × Bool) (m : SlotNo) : State × Bool :=
  if x.2 then x
  else
    match x.1.manifests.get m with
    | none => x
    | some f =>
      if f.state = .closing ∧ f.waiting then
        if x.1.journal.hasRoom then (x.1.admitClose m f, false) else (x.1, true)
      else x

/-- The drain: the settle-pending list in ascending dock number, then the waiting closes (R104). -/
def State.drain (s : State) : State :=
  (bothSlots.foldl drainClose (allDocks.foldl drainDock (s, false))).1

/-- A reserved slot is released, and the room is offered to the drain (R99, R104). -/
def State.releaseSlot (s : State) : State := s.unreserve.drain

/-! ## The offer of a close -/

/-- A CLOSING manifest none of whose van releases remains offers its VAN_CLOSE: admitted, or close waiting becomes yes
(R131, R133). -/
def State.offerClose (s : State) (m : SlotNo) : State := match s.manifests.get m with
  | none => s
  | some x =>
    if x.state = .closing ∧ !x.waiting ∧ !vanInProgress s.docks m then
      if s.journal.hasRoom then s.admitClose m x
      else (s.updManifest m fun y => { y with waiting := true }).noticeAll noticeManifest
    else s

/-- The offers at the end of a step (R131), slot 0 first where two manifests enter CLOSING in one step.
DESIGN CHOICE: assumption 11. -/
def State.offerCloses (s : State) : State := bothSlots.foldl State.offerClose s

/-! ## The settlement's kind -/

/-- The kind of a stamped arrival at a station time: RETRACT or END (R84, R85). -/
def stampedKind (s : State) (t : Stamp) (arrival : Nat) : Settlement :=
  if retractHolds s.settings t arrival then .retract t else .ended false t

/-- The kind of a stamped arrival, provisional while its time is an uptime (R84, R93). -/
def settlementOf (s : State) (t : Stamp) (arrival : Time) : Settlement := match arrival with
  | .clock v => stampedKind s t v
  | .uptime _ => .ended true t

end Sys2Proof.Machine
end

