-- ==== Sys2Proof/Decode.lean ====
section
/-! DEFINITION. How bits become commands.  The byte order of fields, the header check and checksum of a port frame (R155,
R156, R157), the payload each long request carries (R188, R190), the frame of the post line (R31), and
`decodeTableWord`, which no row of the opcode table needs since none gives bits. -/

namespace Sys2Proof

/-! ## Bytes -/

/-- The `n` low bytes of a number, least significant first (R153, R188). -/
def leBytes : Nat → Nat → List Byte
  | 0, _ => []
  | n + 1, v => BitVec.ofNat 8 v :: leBytes n (v / 256)

/-- The number a run of bytes spells, least significant first. -/
def ofLeBytes : List Byte → Nat
  | [] => 0
  | b :: bs => b.toNat + 256 * ofLeBytes bs

/-- A card serial's 7 bytes as they are sent: byte 0, the most significant, first (R58, R188). -/
def serialBytes (s : Serial) : List Byte := (leBytes 7 s.toNat).reverse

/-- The serial that 7 bytes spell, byte 0 the most significant. -/
def ofSerialBytes (bs : List Byte) : Serial := BitVec.ofNat 56 (ofLeBytes bs.reverse)

/-- How many bits of the `n` low bits of `v` are 1. -/
def countOnes (n v : Nat) : Nat := ((List.range n).filter v.testBit).length

/-! ## The header of a port frame -/

/-- The positions of header bits 0-23, in order (R155). -/
def headerPositions : List Nat :=
  [3, 5, 6, 7, 9, 10, 11, 12, 13, 14, 15, 17, 18, 19, 20, 21, 22, 23, 24, 25, 26, 27, 28, 29]

/-- The exclusive-or of the positions of every header bit that is 1 (R155). -/
def positionXor (h : BitVec 24) : Nat :=
  (headerPositions.zipIdx.filter fun p => h.getLsbD p.2).foldl (fun a p => a ^^^ p.1) 0

/-- The check byte of a header: the exclusive-or in bits 0-4, the even parity of the 29 bits in bit 5, bits 6 and 7 zero
(R155). -/
def checkByte (h : BitVec 24) : Byte :=
  let low := positionXor h
  BitVec.ofNat 8 (low + 32 * ((countOnes 24 h.toNat + countOnes 5 low) % 2))

/-- What the header check of R156 finds: the header that stands, and whether a header bit was inverted to get it; or that it
cannot be corrected. -/
inductive HeaderVerdict where
  | stands (header : BitVec 24) (corrected : Bool)
  | uncorrectable
deriving DecidableEq, Repr

/-- The header check on receipt, by the syndrome `s` and the parity of the 30 bits (R156). -/
def checkHeader (h : BitVec 24) (c : Byte) : HeaderVerdict :=
  let s := positionXor h ^^^ (c.toNat % 32)
  let odd := (countOnes 24 h.toNat + countOnes 6 c.toNat) % 2 = 1
  if odd then
    if s = 0 ∨ s ∈ [1, 2, 4, 8, 16] then .stands h false
    else if s ∈ headerPositions then .stands (h ^^^ BitVec.ofNat 24 (2 ^ headerPositions.idxOf s)) true
    else .uncorrectable
  else if s = 0 then .stands h false
  else .uncorrectable

/-- The head byte's kind (R154). -/
def headerKind (h : BitVec 24) : BitVec 6 := h.setWidth 6

/-- The head byte's tag (R154). -/
def headerTag (h : BitVec 24) : BitVec 2 := (h >>> 6).setWidth 2

/-- The two parameter bytes of a short frame, or the payload length of a long one (R154). -/
def headerParams (h : BitVec 24) : BitVec 16 := (h >>> 8).setWidth 16

/-- Kinds 32-63 are long (R154). -/
def isLongKind (k : BitVec 6) : Bool := 32 ≤ k.toNat

/-- The longest payload a long frame may have (R154, R156). -/
def maxPayload : Nat := 512

/-- The header sent for a tag, a kind, and the two bytes after the head byte (R154). -/
def headerOf (tag : BitVec 2) (kind : BitVec 6) (params : BitVec 16) : BitVec 24 := params ++ tag ++ kind

/-- The header and check byte as received, one of the 30 protected bits turned over where the link says so. -/
def received (flip : Option (Fin 30)) (h : BitVec 24) : BitVec 24 × Byte :=
  match flip with
  | none => (h, checkByte h)
  | some i =>
    if i.val < 24 then (h ^^^ BitVec.ofNat 24 (2 ^ i.val), checkByte h)
    else (h, checkByte h ^^^ BitVec.ofNat 8 (2 ^ (i.val - 24)))

/-! ## The checksum of a long frame -/

/-- One bit of the checksum register: the generator x^16 + x^12 + x^5 + 1, least significant bit first (R157).
DEDUCED: assumption 8. -/
def crcBit (r : BitVec 16) : BitVec 16 := if r.getLsbD 0 then (r >>> 1) ^^^ 0x8408#16 else r >>> 1

/-- One byte of the checksum (R157). -/
def crcByte (r : BitVec 16) (b : Byte) : BitVec 16 :=
  crcBit (crcBit (crcBit (crcBit (crcBit (crcBit (crcBit (crcBit (r ^^^ b.setWidth 16))))))))

/-- The checksum of a payload, preset to FFFFh and not inverted at the end (R157). -/
def checksum (payload : List Byte) : BitVec 16 := payload.foldl crcByte 0xFFFF#16

/-! ## Kind codes and payloads of the requests -/

/-- Kind codes of R189 and R190. -/
def kindNoticeRead : BitVec 6 := 2
def kindCursorRead : BitVec 6 := 3
def kindFaultRead : BitVec 6 := 4
def kindCardQueryShort : BitVec 6 := 5
def kindDockReset : BitVec 6 := 6
def kindManifestQuery : BitVec 6 := 7
def kindManifestClose : BitVec 6 := 8
def kindManifestRelease : BitVec 6 := 9
def kindFaultDrop : BitVec 6 := 10
def kindStationRestart : BitVec 6 := 11
def kindPolicySet : BitVec 6 := 12
def kindCursorSet : BitVec 6 := 13
def kindCardPut : BitVec 6 := 33
def kindCardCredit : BitVec 6 := 34
def kindCardStatus : BitVec 6 := 35
def kindCardTrips : BitVec 6 := 36
def kindCardQuery : BitVec 6 := 37
def kindCardDrop : BitVec 6 := 38
def kindGuestIssue : BitVec 6 := 39
def kindReleaseDock : BitVec 6 := 40
def kindReleaseAny : BitVec 6 := 41
def kindTariffPut : BitVec 6 := 42
def kindJournalRead : BitVec 6 := 43
def kindJournalTake : BitVec 6 := 44
def kindManifestStage : BitVec 6 := 45
def kindManifestOpen : BitVec 6 := 46
def kindFaultReport : BitVec 6 := 47
def kindFaultAck : BitVec 6 := 48
def kindBikeMark : BitVec 6 := 49
def kindBikeClear : BitVec 6 := 50
def kindMapPut : BitVec 6 := 51
def kindClockSet : BitVec 6 := 52
def kindStationSet : BitVec 6 := 53
def kindNoticeMask : BitVec 6 := 54
def kindNoticeClear : BitVec 6 := 55
def kindCursorWrite : BitVec 6 := 56

/-- The kinds that name a request: 2-13 and 33-56 (R189). -/
def namesRequest (k : BitVec 6) : Bool :=
  (2 ≤ k.toNat && k.toNat ≤ 13) || (33 ≤ k.toNat && k.toNat ≤ 56)

/-- The payload of CARD_PUT, 22 bytes (R190). -/
def CardPut.bytes (r : CardPut) : List Byte :=
  serialBytes r.serial ++ [r.kind] ++ leBytes 3 r.member.toNat ++ [r.plan, r.status]
    ++ leBytes 4 r.balance.toNat ++ [r.expiryPresent] ++ leBytes 4 r.expiry.toNat

/-- Seven tariff values, 28 bytes (R190). -/
def TariffWords.bytes (v : TariffWords) : List Byte :=
  leBytes 4 v.free.toNat ++ leBytes 4 v.block.toNat ++ leBytes 4 v.price.toNat ++ leBytes 4 v.cap.toNat
    ++ leBytes 4 v.limit.toNat ++ leBytes 4 v.minFunds.toNat ++ leBytes 4 v.credit.toNat

/-- The lines of a manifest request, 2 bytes each (R190). -/
def lineBytes : List LineWords → List Byte
  | [] => []
  | l :: ls => l.form :: l.asked :: lineBytes ls

/-- The entries of FAULT_ACK, 3 bytes each (R190). -/
def ackBytes : List AckWords → List Byte
  | [] => []
  | e :: es => leBytes 2 e.number.toNat ++ e.repeats :: ackBytes es

/-- The payload of a STATION_SET that writes, 58 bytes (R190). -/
def SettingsWords.bytes (w : SettingsWords) : List Byte :=
  [1] ++ leBytes 4 w.stationNumber.toNat ++ leBytes 4 w.memberWindow.toNat ++ leBytes 4 w.vanWindow.toNat
    ++ leBytes 4 w.retractWindow.toNat ++ leBytes 4 w.lowFill.toNat ++ leBytes 4 w.attribution.toNat
    ++ leBytes 4 w.sweepPeriod.toNat ++ leBytes 4 w.replyTimeout.toNat ++ leBytes 4 w.retryLimit.toNat
    ++ leBytes 4 w.dropThreshold.toNat ++ leBytes 4 w.dropWindow.toNat ++ leBytes 4 w.probeInterval.toNat
    ++ leBytes 4 w.idleTimeout.toNat ++ [w.lineParity, w.parityCheck, w.sumKiosk, w.sumBackhaul, w.sumService]

/-- The payload of CURSOR_WRITE: 28 bytes for TARIFFS, 2 for MAP (R190). -/
def CursorEntry.bytes : CursorEntry → List Byte
  | .tariff v => v.bytes
  | .map valid address => [valid, address]
  | .other payload => payload

/-- The payload the fields of a long request spell, with the request's kind; none for every other command (R190). -/
def Instr.layout : Instr → Option (BitVec 6 × List Byte)
  | .cardPut _ r => some (kindCardPut, r.bytes)
  | .cardCredit _ serial delta => some (kindCardCredit, serialBytes serial ++ leBytes 4 delta.toNat)
  | .cardStatus _ serial status => some (kindCardStatus, serialBytes serial ++ [status])
  | .cardTrips _ serial count => some (kindCardTrips, serialBytes serial ++ [count])
  | .cardDrop _ serial => some (kindCardDrop, serialBytes serial)
  | .cardQuery _ serial => some (kindCardQuery, serialBytes serial)
  | .guestIssue _ serial plan deposit validity =>
    some (kindGuestIssue, serialBytes serial ++ [plan] ++ leBytes 4 deposit.toNat ++ leBytes 2 validity.toNat)
  | .releaseDock _ serial dock => some (kindReleaseDock, serialBytes serial ++ [dock])
  | .releaseAny _ serial => some (kindReleaseAny, serialBytes serial)
  | .tariffPut _ plan v => some (kindTariffPut, plan :: v.bytes)
  | .journalRead _ number => some (kindJournalRead, leBytes 4 number.toNat)
  | .journalTake _ number => some (kindJournalTake, leBytes 4 number.toNat)
  | .manifestStage _ id validity lines =>
    some (kindManifestStage,
      leBytes 2 id.toNat ++ [validity, BitVec.ofNat 8 lines.length] ++ lineBytes lines)
  | .manifestOpen _ staff id adopt lines =>
    some (kindManifestOpen,
      serialBytes staff ++ leBytes 2 id.toNat ++ [adopt, BitVec.ofNat 8 lines.length] ++ lineBytes lines)
  | .faultReport _ dock code present card =>
    some (kindFaultReport, [dock, code, present] ++ serialBytes card)
  | .faultAck _ discarded entries =>
    some (kindFaultAck, [discarded, BitVec.ofNat 8 entries.length] ++ ackBytes entries)
  | .bikeMarkSet _ dock code expected => some (kindBikeMark, [dock, 0, code] ++ leBytes 3 expected.toNat)
  | .bikeMarkClear _ dock code expected => some (kindBikeMark, [dock, 1, code] ++ leBytes 3 expected.toNat)
  | .bikeClear _ dock expected => some (kindBikeClear, [dock] ++ leBytes 3 expected.toNat)
  | .mapPut _ dock valid address => some (kindMapPut, [dock, valid, address])
  | .clockSet _ time => some (kindClockSet, leBytes 4 time.toNat)
  | .stationSetRead _ => some (kindStationSet, [0])
  | .stationSetWrite _ w => some (kindStationSet, w.bytes)
  | .noticeMask _ flags docks => some (kindNoticeMask, leBytes 2 flags.toNat ++ leBytes 8 docks.toNat)
  | .noticeClear _ flags docks counters =>
    some (kindNoticeClear, leBytes 2 flags.toNat ++ leBytes 8 docks.toNat ++ [counters])
  | .cursorWrite _ w => some (kindCursorWrite, w.bytes)
  | .cardQueryShortForm _ _ => none
  | .manifestRelease _ _ _ => none
  | .manifestClose _ _ => none
  | .manifestQuery _ _ => none
  | .faultRead _ _ => none
  | .faultDrop _ _ => none
  | .policySet _ _ _ => none
  | .dockReset _ _ _ => none
  | .stationRestart _ _ _ => none
  | .cursorSet _ _ _ _ _ => none
  | .cursorRead _ _ => none
  | .noticeRead _ _ => none
  | .idleFrame _ _ => none
  | .unassignedKindFrame _ _ _ _ => none
  | .headerError _ _ _ => none
  | .selectReleased _ _ => none
  | .replyClockedOut _ => none
  | .query _ _ => none
  | .unlock _ _ => none
  | .lock _ _ => none
  | .writeTagStamp _ _ => none
  | .writeTagClear _ _ => none
  | .writeTagMark _ _ => none
  | .writeTagClearMark _ _ => none
  | .showReply _ _ => none
  | .probe _ _ => none
  | .replyTimeout _ => none
  | .callWireAsserted => none
  | .callRoundArbitration _ _ => none
  | .tap _ _ => none
  | .insert _ _ => none
  | .removed _ => none
  | .faultKey _ _ => none
  | .jam _ => none
  | .badNewsFrame _ _ => none
  | .newsTimeout _ => none
  | .releaseDeadline _ => none
  | .flashDeadline _ => none
  | .dropWindowEnd _ => none
  | .probeTimer _ => none
  | .sweepTimer => none
  | .idleDeadline _ => none
  | .stagedExpiry _ => none
  | .guestExpiry _ => none
  | .restartDue => none
  | .mainPowerFail => none
  | .mainPowerReturn => none
  | .batteryFail => none
  | .resetAsserted => none
  | .resetReleased => none
  | .badReply _ _ => none

/-! ## The frame of the post line -/

/-- The parity bit of a byte: with ODD the nine bits hold an odd number of ones, with EVEN an even number (R31). -/
def parityBit (odd : Bool) (b : Byte) : Bool := (countOnes 8 b.toNat % 2 == 1) != odd

/-- The sum of the bytes of a run, modulo 256 (R31). -/
def byteSum (bs : List Byte) : Byte := bs.foldl (· + ·) 0

/-- A line frame as it is sent: address, kind, length, payload and sum, each byte with its parity bit (R31). -/
def lineFrame (odd : Bool) (address : Nat) (kind : Byte) (payload : List Byte) : List LineByte :=
  let body := BitVec.ofNat 8 address :: kind :: BitVec.ofNat 8 payload.length :: payload
  (body ++ [0 - byteSum body]).map fun b => ⟨b, parityBit odd b⟩

/-- What a complete line frame says, where it passes the checks that hold for every frame: the parity of every byte when the
parity check is ON, the length byte, and the sum (R31, R34, R37). -/
def readLineFrame (check odd : Bool) (f : List LineByte) : Option (Byte × Byte × List Byte) :=
  if check && !(f.all fun b => b.parity == parityBit odd b.value) then none
  else
    match f.map LineByte.value with
    | address :: kind :: length :: rest =>
      if length.toNat ≤ 24 && rest.length == length.toNat + 1
          && byteSum (address :: kind :: length :: rest) == 0 then
        some (address, kind, rest.dropLast)
      else none
    | _ => none

/-- A trip stamp's 19 bytes (10.6). -/
def StampWords.bytes (t : StampWords) : List Byte :=
  leBytes 2 t.station.toNat ++ [t.dock] ++ leBytes 4 t.start.toNat ++ serialBytes t.serial ++ [t.card]
    ++ leBytes 4 t.trip.toNat

/-- A state block's 24 bytes (10.6). -/
def StateBlock.bytes (b : StateBlock) : List Byte :=
  [b.flags] ++ leBytes 3 b.bike.toNat ++ [b.mark] ++ b.stamp.bytes

/-- The state block that 24 bytes spell (10.6). -/
def readStateBlock (bs : List Byte) : Option StateBlock :=
  if bs.length = 24 then
    some { flags := bs.headD 0
           bike := BitVec.ofNat 24 (ofLeBytes ((bs.drop 1).take 3))
           mark := bs.getD 4 0
           stamp :=
             { station := BitVec.ofNat 16 (ofLeBytes ((bs.drop 5).take 2))
               dock := bs.getD 7 0
               start := BitVec.ofNat 32 (ofLeBytes ((bs.drop 8).take 4))
               serial := ofSerialBytes ((bs.drop 12).take 7)
               card := bs.getD 19 0
               trip := BitVec.ofNat 32 (ofLeBytes ((bs.drop 20).take 4)) } }
  else none

/-- A post status byte (R32). -/
def PostStatus.code : PostStatus → Byte
  | .ok => 0
  | .locked => 1
  | .empty => 2
  | .lockFail => 3
  | .tagAbsent => 4
  | .tagWriteFail => 5

/-- The status a byte names, if any (R32). -/
def readPostStatus (b : Byte) : Option PostStatus :=
  if b = 0 then some .ok
  else if b = 1 then some .locked
  else if b = 2 then some .empty
  else if b = 3 then some .lockFail
  else if b = 4 then some .tagAbsent
  else if b = 5 then some .tagWriteFail
  else none

/-- The command that a word of the opcode table's bits spells.  No row of the table gives bits, so none does.
DESIGN CHOICE: assumption 2. -/
def decodeTableWord (_nbits _w : Nat) : Option Instr := none

end Sys2Proof
end

