-- ==== Sys2Proof/Machine/Operands.lean ====
section
/-! DEFINITION. What the operands of commands say: codes and ranges of request fields, the ports each request is accepted
on, the state block and trip stamp (R192), the frames of post commands (R31 to R33), and the checks of a post's reply and
news (R34, R37). -/

namespace Sys2Proof.Machine

/-! ## Request fields -/

/-- A byte that says no or yes: 0 or 1, and no other code (R188, R190). -/
def isBit (b : Byte) : Bool := b == 0 || b == 1

/-- The dock a byte of a request names (R188). -/
def dockOfByte (b : Byte) : Option DockNo := dockNamed b.toNat

/-- The plan a byte names, 0-7 (R57). -/
def planOf (b : Byte) : Option (Fin 8) := if h : b.toNat < 8 then some ⟨b.toNat, h⟩ else none

/-- The card status a code names (R190). -/
def cardStatusOf (b : Byte) : Option CardStatus :=
  if b = 0 then some .active else if b = 1 then some .suspended else if b = 2 then some .denied else none

/-- The kind codes of CARD_PUT, GUEST among them (R190). -/
def isCardKind (b : Byte) : Bool := b.toNat ≤ 2

/-- The action and filter of a manifest line's first byte: bit 7 and bits 0-1, the others 0 (R190). -/
def lineFormOf (b : Byte) : Option (Action × Filter) :=
  if (b &&& 0x7C#8) = 0 then
    let action := if b.getLsbD 7 then Action.unload else .load
    match (b &&& 3#8).toNat with
    | 0 => some (action, .any)
    | 1 => some (action, .healthy)
    | 2 => some (action, .faulty)
    | _ => none
  else none

/-- Whether every line of a request has codes the tables assign (R188, step 7 of R159). -/
def lineCodesOk (ls : List LineWords) : Bool := ls.all fun l => (lineFormOf l.form).isSome

/-- A line created from a request: counts 0, reserved at close absent; absent where it is not well formed (R112). -/
def lineOfWords (l : LineWords) : Option MLine :=
  match lineFormOf l.form with
  | some (action, filter) =>
    if (action == .unload && filter != .any) || l.asked.toNat < 1 || 64 < l.asked.toNat then none
    else some { action, filter, asked := l.asked.toNat, reserved := 0, done := 0, displaced := 0, reservedAtClose := none }
  | none => none

/-- The lines of a well formed line list: 1 to 16 of them, each well formed (R112). -/
def linesOfWords (ls : List LineWords) : Option (List MLine) :=
  if ls.length < 1 ∨ 16 < ls.length then none else ls.mapM lineOfWords

/-- Notice flags and masks use bits 0-9 of their 16-bit field, the others 0 (R188, R190). -/
def noticeWordOk (w : BitVec 16) : Bool := w.toNat < 1024

/-! ## Permission (R163) -/

def onBackhaul (p : PortId) : Bool := p == .backhaul
def onKiosk (p : PortId) : Bool := p == .kiosk
def onService (p : PortId) : Bool := p == .service
def onKioskOrBackhaul (p : PortId) : Bool := p != .service
def onBackhaulOrService (p : PortId) : Bool := p != .kiosk
def onKioskOrService (p : PortId) : Bool := p != .backhaul
def onAnyPort (_ : PortId) : Bool := true

/-! ## Trip stamps and state blocks -/

/-- A trip stamp read from a tag: the card byte's bit 7 is the kind and bits 0-2 the plan (10.6, R192). -/
def stampOfWords (w : StampWords) : Stamp :=
  { station := w.station.toNat, dock := w.dock.toNat, start := w.start.toNat, serial := w.serial
    guest := w.card.getLsbD 7, plan := ⟨w.card.toNat % 8, Nat.mod_lt _ (by decide)⟩, trip := w.trip.toNat }

/-- The card byte of a stamp: the unassigned bits are written as 0 (R192). -/
def cardByte (guest : Bool) (plan : Fin 8) : Byte := BitVec.ofNat 8 ((if guest then 128 else 0) + plan.val)

/-- A stamp's words as the part writes them (R8, R192). -/
def wordsOfStamp (t : Stamp) : StampWords :=
  { station := BitVec.ofNat 16 t.station, dock := BitVec.ofNat 8 t.dock, start := BitVec.ofNat 32 t.start
    serial := t.serial, card := cardByte t.guest t.plan, trip := BitVec.ofNat 32 t.trip }

/-- A good state block: absent where no bike stands in the dock (R192). -/
def readBlock (b : StateBlock) : Option BikeReading :=
  if b.flags.getLsbD 0 then
    some { latched := b.flags.getLsbD 1
           tag :=
            if b.flags.getLsbD 2 then
              some { bike := b.bike.toNat
                     mark := if b.flags.getLsbD 4 && 1 ≤ b.mark.toNat && b.mark.toNat ≤ 15 then some b.mark.toNat else none
                     stamp := if b.flags.getLsbD 3 then some (stampOfWords b.stamp) else none }
            else none }
  else none

/-- The tag record INSERT news carries: "no tag" also where the block says that no bike is present (assumption 14). -/
def insertTag (b : StateBlock) : Option TagRecord := (readBlock b).bind fun r => r.tag

/-- The bike number of a tag record, 0 for "no tag" (R15). -/
def tagBike (t : Option TagRecord) : Nat := match t with
  | some r => r.bike
  | none => 0

/-- The trip stamp of a tag record, if it carries one. -/
def tagStamp (t : Option TagRecord) : Option Stamp := t.bind fun r => r.stamp

/-- The fault mark of a tag record, if it carries one. -/
def tagMark (t : Option TagRecord) : Option Nat := t.bind fun r => r.mark

/-! ## Post commands -/

/-- The SHOW pattern codes (R32). -/
def Pattern.code : Pattern → Byte
  | .off => 0
  | .green => 1
  | .greenBlink => 2
  | .amber => 3
  | .red => 4
  | .redBlink => 5

/-- The kind code of a post command (R32). -/
def Cmd.kind : Cmd → Byte
  | .query => 1
  | .unlock _ => 2
  | .lock => 3
  | .stamp _ => 4
  | .clear => 4
  | .mark _ => 4
  | .clearMark => 4
  | .display _ => 5
  | .probe => 6

/-- The payload of a post command (R32). -/
def Cmd.payload : Cmd → List Byte
  | .query => []
  | .unlock w => leBytes 2 w
  | .lock => []
  | .stamp t => 0 :: (wordsOfStamp t).bytes
  | .clear => [1]
  | .mark c => [2, BitVec.ofNat 8 c]
  | .clearMark => [3]
  | .display p => [p.code]
  | .probe => []

/-- Whether R32 allows the status in a reply to the command; a QUERY reply carries no status byte. -/
def Cmd.allows : Cmd → PostStatus → Bool
  | .query, _ => false
  | .unlock _, st => st == .ok || st == .lockFail
  | .lock, st => st == .locked || st == .empty || st == .lockFail
  | .stamp _, st => st == .ok || st == .tagAbsent || st == .tagWriteFail
  | .clear, st => st == .ok || st == .tagAbsent || st == .tagWriteFail
  | .mark _, st => st == .ok || st == .tagAbsent || st == .tagWriteFail
  | .clearMark, st => st == .ok || st == .tagAbsent || st == .tagWriteFail
  | .display _, st => st == .ok
  | .probe, st => st == .ok

/-- The frame of a command to a post (R31, R32). -/
def commandFrame (s : Settings) (address : Nat) (c : Cmd) : List LineByte :=
  lineFrame s.oddParity address c.kind c.payload

/-- The CALL_POLL frame (R33). -/
def callPollFrame (s : Settings) (pointer : Nat) : List LineByte :=
  lineFrame s.oddParity 0 0x10 [BitVec.ofNat 8 pointer]

/-- The NEWS_ACK frame (R33). -/
def newsAckFrame (s : Settings) (address : Nat) (seq : Bool) : List LineByte :=
  lineFrame s.oddParity address 0x11 [if seq then 1 else 0]

/-! ## What posts send -/

/-- The content of a good reply: a state block, or a status (R32). -/
inductive PostReply where
  | block (b : StateBlock)
  | status (st : PostStatus)
deriving DecidableEq, Repr

/-- A complete reply frame that meets every check of R34: parity, sum, the address and the kind commanded, the length, and a
status R32 allows. -/
def goodReply (s : Settings) (x : Exchange) (f : List LineByte) : Option PostReply :=
  match readLineFrame s.parityCheck s.oddParity f with
  | none => none
  | some (address, kind, payload) =>
    if address.toNat != x.address || kind != x.cmd.kind then none
    else
      match x.cmd with
      | .query => (readStateBlock payload).map PostReply.block
      | _ =>
        match payload with
        | [b] => match readPostStatus b with
          | some st => if x.cmd.allows st then some (.status st) else none
          | none => none
        | _ => none

/-- The items of news (R33). -/
inductive News where
  | tap (serial : Serial)
  | insert (block : StateBlock)
  | removed
  | faultKey (code : Nat)
  | jam
deriving DecidableEq, Repr

/-- A news frame that meets every check of R37, with its sequence bit. -/
def goodNews (s : Settings) (winner : Nat) (f : List LineByte) : Option (Bool × News) :=
  match readLineFrame s.parityCheck s.oddParity f with
  | none => none
  | some (address, kind, payload) =>
    if address.toNat != winner then none
    else
      let seq := kind.getLsbD 7
      match kind.toNat % 128 with
      | 0x20 => if payload.length = 7 then some (seq, .tap (ofSerialBytes payload)) else none
      | 0x21 => (readStateBlock payload).map fun b => (seq, .insert b)
      | 0x22 => if payload = [] then some (seq, .removed) else none
      | 0x23 => match payload with
        | [c] => some (seq, .faultKey c.toNat)
        | _ => none
      | 0x24 => if payload = [] then some (seq, .jam) else none
      | _ => none

/-- The dock whose valid map entry holds an address (R52). -/
def dockAtAddress (s : State) (address : Nat) : Option DockNo :=
  allDocks.find? fun d => s.map.get d == some address

end Sys2Proof.Machine
end

