-- ==== Sys2Proof/Machine/Serve.lean ====
section
/-! DEFINITION. How a port unit takes an input frame: the header check with its counters (R156), and the steps of R159 from
the header to the reply. -/

namespace Sys2Proof.Machine

/-- What a block answers: its state after the request, and its reply; no reply yet for a long-running request (R162). -/
abbrev Taken := State × Option Answer

/-- A reply of a status alone (R154). -/
def replyStatus (s : State) (st : Status) : Taken := (s, some { status := st })

/-- A refusal NOT_AVAILABLE with its reason (R25). -/
def refuseFor (s : State) (r : Reason) : Taken := (s, some { status := .notAvailable, reason := some r })

/-- A reply with a status and content (R154). -/
def answerWith (s : State) (st : Status) (content : List Byte) : Taken := (s, some { status := st, content := some content })

/-- An uncorrectable header ends the port's reading of the select (R156). -/
def Port.headerError (p : Port) : Port :=
  { p with headerErrors := satSucc 255 p.headerErrors, discarding := true }.notice noticeLinkError

/-- The header check of R156 at a port: the port after it, and the header that stands, absent where the input of the select
ends.  A corrected header counts in CORRECTED also when its payload length is above 512. -/
def Port.checkHeader (p : Port) (h : BitVec 24) (c : Byte) : Port × Option (BitVec 24) :=
  match Sys2Proof.checkHeader h c with
  | .uncorrectable => (p.headerError, none)
  | .stands g corrected =>
    let q := if corrected then { p with corrected := satSucc 255 p.corrected } else p
    if isLongKind (headerKind g) && decide (maxPayload < (headerParams g).toNat) then (q.headerError, none)
    else (q, some g)

/-- Whether a tag is in use (R159). -/
def Port.tagInUse (p : Port) (tag : BitVec 2) : Bool := p.tags.getLsbD tag.toNat

/-- The word of four tag bits with one tag's bit set. -/
def tagBit (tag : BitVec 2) : BitVec 4 := BitVec.ofNat 4 (2 ^ tag.toNat)

/-- Steps 1, 3 and 4 of R159 for a request frame: the port after them, and whether the request goes on.  A tag in use
discards the frame and sets TAG_CLASH; else the tag becomes in use. DESIGN CHOICE: assumption 38. -/
def Port.arrive (p : Port) (k : Link) (kind : BitVec 6) (params : BitVec 16) : Port × Bool :=
  if p.discarding then (p, false)
  else
    let w := received k.flip (headerOf k.tag kind params)
    match p.checkHeader w.1 w.2 with
    | (q, none) => (q, false)
    | (q, some g) =>
      if q.tagInUse (headerTag g) then (q.notice noticeTagClash, false)
      else ({ q with tags := q.tags ||| tagBit (headerTag g) }, true)

/-- The port's checksum-required setting (R180). -/
def sumRequired (w : Settings) : PortId → Bool
  | .kiosk => w.sumKiosk
  | .backhaul => w.sumBackhaul
  | .service => w.sumService

/-- The checksum test of a long frame (R157): while the port's setting is OFF, 0000h is accepted without comparison. -/
def sumAccepted (s : State) (p : PortId) (sum : BitVec 16) (payload : List Byte) : Bool :=
  (!sumRequired s.settings p && sum == 0) || sum == checksum payload

/-- A block's answer put in the port's queue, where it makes one now (R161). -/
def queueAnswer (p : PortId) (tag : BitVec 2) (t : Taken) : State :=
  match t.2 with
  | some a => t.1.sendReply p tag a
  | none => t.1

/-- Steps 5 to 9 of R159 for a request that has arrived: checksum, form with the kind, permission, and the block.
DEDUCED: assumption 33. -/
def judge (sumOk form allowed : Bool) (act : State → Taken) (s : State) : Taken :=
  if !sumOk then replyStatus s .checksum
  else if !form then replyStatus s .badRequest
  else if !allowed then replyStatus s .notPermitted
  else act s

/-- A request frame through the steps of R159, in order. -/
def serve (k : Link) (kind : BitVec 6) (params : BitVec 16) (sumOk form allowed : Bool) (act : State → Taken)
    (s : State) : State :=
  let r := (s.port k.port).arrive k kind params
  let t := s.updPort k.port fun _ => r.1
  if r.2 then queueAnswer k.port k.tag (judge sumOk form allowed act t) else t

/-- A short request (R189). -/
def serveShort (k : Link) (kind : BitVec 6) (params : BitVec 16) (form : Bool) (allowed : PortId → Bool)
    (act : State → Taken) (s : State) : State :=
  serve k kind params true form (allowed k.port) act s

/-- A long request (R190): its payload is that of its fields, or the misfit in their place, which fails the form. -/
def serveLong (f : LongFrame) (layout : Option (BitVec 6 × List Byte)) (codesOk : Bool) (allowed : PortId → Bool)
    (act : State → Taken) (s : State) : State :=
  match layout with
  | none => s
  | some (kind, bytes) =>
    let payload := f.misfit.getD bytes
    serve f.link kind (BitVec.ofNat 16 payload.length) (sumAccepted s f.link.port f.sum payload)
      (f.misfit.isNone && codesOk) (allowed f.link.port) act s

/-- The two parameter bytes of a short frame (R154). -/
def paramsOf (first second : Byte) : BitVec 16 := second ++ first

end Sys2Proof.Machine
end

