-- ==== Sys2Proof/Machine/Replies.lean ====
section
/-! DEFINITION. What replies say: the codes of R191, the records of chapter 10.5, the contents of chapter 10.4, and the reply
frames as they are sent (R154, R155, R157). -/

namespace Sys2Proof.Machine

/-! ## Codes (R191) -/

/-- A reply status's code. -/
def Status.code : Status → Byte
  | .ok => 0
  | .clamped => 1
  | .notPermitted => 2
  | .badRequest => 3
  | .checksum => 4
  | .notCommissioned => 5
  | .unknownCard => 6
  | .denied => 7
  | .suspended => 8
  | .expired => 9
  | .limit => 10
  | .lowBalance => 11
  | .notAvailable => 12
  | .journalFull => 13
  | .tableFull => 14
  | .duplicate => 15
  | .dockBusy => 16
  | .noSlot => 17
  | .busy => 18
  | .notStaff => 19
  | .range => 20
  | .notFound => 21
  | .lineFail => 22
  | .tagFail => 23

/-- The code of a reason of NOT_AVAILABLE. -/
def Reason.code : Reason → Byte
  | .unmapped => 1
  | .lost => 2
  | .verify => 3
  | .jammed => 4
  | .empty => 5
  | .releasing => 6
  | .arriving => 7
  | .held => 8
  | .pending => 9
  | .staleTag => 10
  | .bikeFault => 11
  | .noneFree => 12

/-- The code of a custody state (10.5). -/
def Custody.code : Custody → Byte
  | .verify => 0
  | .empty => 1
  | .docked => 2
  | .releasing => 3
  | .arriving => 4
  | .jammed => 5

/-- The code of a card status (R190). -/
def CardStatus.code : CardStatus → Byte
  | .active => 0
  | .suspended => 1
  | .denied => 2

/-- The code of a close reason (10.5). -/
def CloseReason.code : CloseReason → Byte
  | .done => 1
  | .expired => 2
  | .idle => 3
  | .cancelled => 4

/-- The code of a fault source (10.5). -/
def FaultSource.code : FaultSource → Byte
  | .postKey => 0
  | .kiosk => 1
  | .line => 2
  | .lock => 3
  | .tag => 4
  | .crew => 5
  | .central => 6

/-- The code of an admission outcome (10.4). -/
def Admission.code : Admission → Byte
  | .new => 0
  | .merged => 1
  | .discarded => 2

/-- The code of a van release's outcome (10.4). -/
def VanOutcome.code : VanOutcome → Byte
  | .unlocked => 0
  | .lineFail => 1
  | .jammed => 2
  | .lost => 3

/-! ## Fields -/

/-- A byte of flags, bit 0 first. -/
def flagByte (bits : List Bool) : Byte := BitVec.ofNat 8 (bits.foldr (fun b n => b.toNat + 2 * n) 0)

/-- A byte that says no or yes. -/
def bitByte (b : Bool) : Byte := if b then 1 else 0

/-- A signed number of 4 bytes (R188). -/
def signedBytes (v : Int) : List Byte := leBytes 4 (BitVec.ofInt 32 v).toNat

/-- A number of a count that fits a byte. -/
def oneByte (n : Nat) : Byte := BitVec.ofNat 8 n

/-- An absent number is sent as 0 (R188). -/
def orZero (n : Option Nat) : Nat := n.getD 0

/-- A time's 4 bytes, 0 when absent (R188). -/
def timeBytes (t : Option Time) : List Byte := leBytes 4 (orZero (t.map Time.value))

/-- Whether a time is present and of kind UPTIME. -/
def isUptimeTime (t : Option Time) : Bool := t.any Time.isUptime

/-- A serial's 7 bytes, 0 when absent. -/
def optSerialBytes (s : Option Serial) : List Byte := serialBytes (s.getD 0)

/-! ## Records -/

/-- A card entry's own bytes 7-16: its kind, number, plan, status and money (10.5). -/
def cardMiddle (c : Card) : List Byte := match c.body with
  | .member n p b _ => [0] ++ leBytes 3 n ++ [oneByte p.val, c.status.code] ++ signedBytes b
  | .guest n p d _ => [1] ++ leBytes 2 n ++ [0, oneByte p.val, c.status.code] ++ signedBytes d
  | .staff n => [2] ++ leBytes 3 n ++ [0, c.status.code] ++ signedBytes 0

/-- A card entry's last charge, if it has one (R57). -/
def Card.lastCharge (c : Card) : Option Nat := match c.body with
  | .member _ _ _ l => l
  | .guest _ _ _ l => l
  | .staff _ => none

/-- A card entry, 31 bytes (10.5). -/
def cardBytes (s : State) (c : Card) : List Byte :=
  serialBytes c.serial ++ cardMiddle c
    ++ [oneByte c.trips, flagByte [c.expiry.isSome, c.lastCharge.isSome, c.lastUse.isSome, cardExpired s c]]
    ++ leBytes 4 (orZero c.expiry) ++ leBytes 4 (orZero c.lastCharge) ++ leBytes 4 (orZero c.lastUse)

/-- A tariff record, 28 bytes (10.5). -/
def tariffBytes (t : Tariff) : List Byte :=
  leBytes 4 t.free ++ leBytes 4 t.block ++ leBytes 4 t.price ++ leBytes 4 t.cap ++ leBytes 4 t.limit
    ++ signedBytes t.minFunds ++ leBytes 4 t.credit

/-- A dock map entry: the valid flag and the post address (R166, R190). -/
def mapBytes (e : Option Nat) : List Byte := match e with
  | some a => [1, oneByte a]
  | none => [0, 0]

/-- A release phase's code (10.5). -/
def Phase.code : Phase → Byte
  | .stamping => 0
  | .unlocking => 1
  | .opened => 2
  | .relocking => 3

/-- Byte 13 of the dock readout: the release or verify context (10.5). -/
def contextByte (k : Dock) : Byte := match k.release with
  | some r => (if r.isVan then 0x80 else 0) + r.phase.code
  | none => match k.verifyCtx with
    | some r => if r.isVan then 0x80 else 0
    | none => 0xFF

/-- Byte 14 of the dock readout: the settle pending kind, provisional and clock-held (10.5). -/
def settleByte (k : Dock) : Byte := match k.settle with
  | none => 0
  | some e =>
    (match e.what with
      | .ended provisional _ => 1 + (if provisional then 0x40 else 0)
      | .retract _ => 2
      | .vanIn _ => 3) + (if e.time.isUptime then 0x80 else 0)

/-- Byte 12 of the dock readout: the hold (10.5). -/
def holdByte (h : Option Hold) : Byte := match h with
  | some x => oneByte (x.slot.val * 16 + x.line)
  | none => 0xFF

/-- The dock readout, 17 bytes (R166, 10.5). -/
def dockBytes (s : State) (d : DockNo) : List Byte :=
  let k := s.dock d
  [oneByte (dockNumber d),
    flagByte [k.mapped, k.link == .lost, k.stale, k.bike.isSome, k.since.isSome, isUptimeTime k.since,
      k.verifyCtx.isSome],
    k.custody.code, oneByte (orZero (s.map.get d))]
    ++ leBytes 3 (orZero k.bike) ++ timeBytes k.since
    ++ [oneByte (orZero k.mark), holdByte k.hold, contextByte k, settleByte k,
      (match k.lastPattern with
        | some p => p.code
        | none => 0xFF),
      oneByte (s.lane d).errors]

/-- The flags of a journal record, bits 0-9 (10.5). -/
def JournalFlags.word (f : JournalFlags) : Nat :=
  [f.skew, f.long, f.capped, f.credit, f.remoteCard, f.late, f.shortfall, f.floor, f.deferred, f.clockLate].foldr
    (fun b n => b.toNat + 2 * n) 0

/-- A VAN_CLOSE line summary, 5 bytes (10.5). -/
def summaryBytes (l : LineSummary) : List Byte :=
  [(match l.action with
    | .load => 0
    | .unload => 1), oneByte l.asked, oneByte l.reservedAtClose, oneByte l.done, oneByte l.displaced]

/-- The kind code of a journal record (10.5). -/
def JournalBody.code : JournalBody → Byte
  | .start _ _ _ _ => 0
  | .ended _ _ _ _ _ _ => 1
  | .retract _ _ _ => 2
  | .vanOut _ => 3
  | .vanIn _ => 4
  | .vanClose _ _ _ => 5

/-- A journal record's own part (10.5). -/
def JournalBody.bytes : JournalBody → List Byte
  | .start serial guest plan trip => serialBytes serial ++ [cardByte guest plan] ++ leBytes 4 trip
  | .ended t duration gross credit net deducted =>
    serialBytes t.serial ++ [cardByte t.guest t.plan] ++ leBytes 4 t.trip ++ leBytes 2 t.station ++ leBytes 4 t.start
      ++ leBytes 4 duration ++ leBytes 4 gross ++ leBytes 2 credit ++ leBytes 4 net ++ leBytes 4 deducted
  | .retract serial trip duration => serialBytes serial ++ leBytes 4 trip ++ leBytes 4 duration
  | .vanOut manifest => leBytes 2 manifest
  | .vanIn manifest => leBytes 2 (orZero manifest)
  | .vanClose manifest reason lines =>
    leBytes 2 manifest ++ [reason.code, oneByte lines.length] ++ (lines.map summaryBytes).flatten

/-- A journal record (10.5). -/
def journalBytes (r : JournalRecord) : List Byte :=
  leBytes 4 r.number ++ [r.body.code + (if r.time.isUptime then 0x80 else 0)] ++ leBytes 2 r.flags.word
    ++ leBytes 4 r.time.value ++ [oneByte r.dock] ++ leBytes 3 r.bike ++ r.body.bytes

/-- How many docks are on the settle-pending list (R107). DEDUCED: assumption 17. -/
def settlePending (s : State) : Nat := (allDocks.filter fun d => (s.dock d).settle.isSome).length

/-- How many of them are clock-held (R107). DEDUCED: assumption 17. -/
def clockHeld (s : State) : Nat := (allDocks.filter fun d => (s.dock d).settle.any fun e => e.time.isUptime).length

/-- How many manifests' VAN_CLOSE waits (R107). -/
def closesWaiting (s : State) : Nat :=
  (bothSlots.filter fun m => (s.manifests.get m).any fun x => x.state == .closing && x.waiting).length

/-- The number of the oldest record held, 0 for an empty journal (R107, 10.5). -/
def oldestNumber (j : Journal) : Nat := match j.records with
  | r :: _ => r.number
  | [] => 0

/-- The journal summary, 14 bytes (R107, 10.5). -/
def journalSummary (s : State) : List Byte :=
  leBytes 4 (oldestNumber s.journal) ++ leBytes 4 s.journal.next ++ leBytes 2 s.journal.records.length
    ++ [oneByte s.journal.reserved, oneByte (settlePending s), oneByte (clockHeld s), oneByte (closesWaiting s)]

/-- A line's action and filter byte (R190). -/
def formByte (a : Action) (f : Filter) : Byte :=
  (match a with
    | .load => 0
    | .unload => 0x80) + (match f with
    | .any => 0
    | .healthy => 1
    | .faulty => 2)

/-- A line in the reply of MANIFEST_STAGE and MANIFEST_OPEN (10.4). -/
def lineReplyBytes (l : MLine) : List Byte := [formByte l.action l.filter, oneByte l.asked, oneByte l.reserved, oneByte l.done]

/-- The reply of MANIFEST_STAGE and MANIFEST_OPEN: slot, id and lines (10.4). -/
def openedBytes (s : State) (m : SlotNo) : List Byte := match s.manifests.get m with
  | some x => [oneByte m.val] ++ leBytes 2 x.id ++ [oneByte x.lines.length] ++ (x.lines.map lineReplyBytes).flatten
  | none => []

/-- The release code of a held dock in the manifest readout (10.5). -/
def releaseCode (k : Dock) : Byte := match k.release with
  | some r => if r.isVan then r.phase.code else 0
  | none => match k.verifyCtx with
    | some _ => 4
    | none => 0

/-- The reserved entries of a line: the docks held for it, ascending, with their release codes (10.5). -/
def heldBytes (s : State) (m : SlotNo) (i : Nat) : List Byte :=
  (allDocks.filter fun d => (s.dock d).hold == some ⟨m, i⟩).flatMap fun d => [oneByte (dockNumber d), releaseCode (s.dock d)]

/-- A line of the manifest readout with its reserved entries (10.5). -/
def lineReadBytes (s : State) (m : SlotNo) (l : MLine) (i : Nat) : List Byte :=
  [formByte l.action l.filter, oneByte l.asked, oneByte l.reserved, oneByte l.done, oneByte l.displaced,
    (match l.reservedAtClose with
      | some n => oneByte n
      | none => 0xFF)] ++ heldBytes s m i

/-- The code of a manifest state (10.5). -/
def MState.code : MState → Byte
  | .staged => 1
  | .active => 2
  | .closing => 3

/-- The close reason byte with close waiting in bit 7 (10.4, 10.5). -/
def closeByte (reason : Option CloseReason) (waiting : Bool) : Byte :=
  (match reason with
    | some r => r.code
    | none => 0) + (if waiting then 0x80 else 0)

/-- The seconds remaining to an idle deadline, 0FFFFh when absent (10.5). -/
def idleRemaining (s : State) (t : Option Nat) : Nat := match t with
  | some u => u - s.uptime
  | none => 0xFFFF

/-- A slot in the manifest readout (10.5). -/
def slotBytes (s : State) (m : SlotNo) : List Byte := match s.manifests.get m with
  | none => oneByte m.val :: List.replicate 19 0
  | some x =>
    [oneByte m.val, x.state.code] ++ leBytes 2 x.id
      ++ [flagByte [x.origin == .service, x.staff.isSome, x.stagedUntil.isSome], closeByte x.reason x.waiting]
      ++ optSerialBytes x.staff ++ leBytes 4 (orZero x.stagedUntil) ++ leBytes 2 (idleRemaining s x.idleAt)
      ++ [oneByte x.lines.length] ++ (x.lines.zipIdx.flatMap fun p => lineReadBytes s m p.1 p.2)

/-- A fault record, 21 bytes (10.5). -/
def faultBytes (r : FaultRecord) : List Byte :=
  leBytes 2 r.number ++ [r.source.code + (if r.sent then 0x80 else 0), oneByte r.code,
    flagByte [r.dock.isSome, r.bike.isSome, r.reporter.isSome, r.first.isUptime]]
    ++ leBytes 4 r.first.value ++ [oneByte (orZero (r.dock.map dockNumber))] ++ leBytes 3 (orZero r.bike)
    ++ optSerialBytes r.reporter ++ [oneByte r.repeats]

/-- Whether a report with the code marks the bike: a QUARANTINE entry, or code 11 or 12 (10.5). -/
def marksBike (u : FaultUnit) (code : Nat) : Bool := u.policyOf code == .quarantine || u.policyOf code == .fixedMark

/-- The policy field of the fault summary, bit `c` for code `c` (10.5). -/
def policyWord (u : FaultUnit) : Nat :=
  ((List.range 16).filter fun c => 1 ≤ c && marksBike u c).foldl (fun w c => w + 2 ^ c) 0

/-- The fault summary, 7 bytes (R145, 10.5). -/
def faultSummary (s : State) : List Byte :=
  [oneByte s.faults.queue.length, oneByte (openFaults s)] ++ leBytes 2 s.faults.next
    ++ [oneByte s.faults.discarded] ++ leBytes 2 (policyWord s.faults)

/-! ## Contents -/

/-- The content of the reply OK to a granted rental (R10, 10.4). -/
def grantBytes (d : DockNo) (trip : Nat) : List Byte := oneByte (dockNumber d) :: leBytes 4 trip

/-- The content of the reply to a MANIFEST_RELEASE (R122, 10.4). -/
def vanBytes (entries : List (DockNo × VanOutcome)) : List Byte :=
  oneByte entries.length :: entries.flatMap fun e => [oneByte (dockNumber e.1), e.2.code]

/-- The content of the reply to a taken report (R139, 10.4). -/
def admissionBytes (a : Admission) (number : Nat) (marked : Bool) : List Byte :=
  [a.code] ++ leBytes 2 number ++ [bitByte marked]

/-- The 13 numbers and 5 choices of the settings (R190). -/
def settingsBytes (w : Settings) : List Byte :=
  ([w.stationNumber, w.memberWindow, w.vanWindow, w.retractWindow, w.lowFill, w.attribution, w.sweepPeriod,
    w.replyTimeout, w.retryLimit, w.dropThreshold, w.dropWindow, w.probeInterval, w.idleTimeout].flatMap (leBytes 4))
    ++ [bitByte (!w.oddParity), bitByte w.parityCheck, bitByte w.sumKiosk, bitByte w.sumBackhaul, bitByte w.sumService]

/-- The code of a start kind (R190). -/
def StartKind.code : StartKind → Byte
  | .cold => 0
  | .warm => 1

/-- The code of a start cause (R190). -/
def StartCause.code : StartCause → Byte
  | .power => 0
  | .reset => 1
  | .restart => 2

/-- The content of the STATION_SET reply (R180, R190). -/
def stationBytes (s : State) : List Byte :=
  settingsBytes s.settings ++ [bitByte s.clock.isSome] ++ leBytes 4 (orZero s.clock) ++ leBytes 4 s.uptime
    ++ [bitByte (commissioned s), s.started.kind.code, s.started.cause.code]

/-- The content of the NOTICE_READ reply (R171, R190). -/
def noticeReadBytes (p : Port) : List Byte :=
  leBytes 2 p.readFlags.toNat ++ leBytes 8 p.dockFlags.toNat ++ leBytes 2 p.masks.toNat ++ leBytes 8 p.dockMasks.toNat
    ++ [oneByte p.corrected, oneByte p.headerErrors, oneByte p.tags.toNat]

/-- The content of the NOTICE_CLEAR reply (R172, 10.4). -/
def noticeClearBytes (p : Port) : List Byte :=
  leBytes 2 p.readFlags.toNat ++ leBytes 8 p.dockFlags.toNat ++ [oneByte p.corrected, oneByte p.headerErrors]

/-! ## Reply frames -/

/-- Kind 1, STATUS, and kind 32, REPLY (R189). -/
def kindStatus : BitVec 6 := 1
def kindReply : BitVec 6 := 32

/-- A header with its check byte as sent (R154, R155). -/
def headerBytes (tag : BitVec 2) (kind : BitVec 6) (params : BitVec 16) : List Byte :=
  let h := headerOf tag kind params
  leBytes 3 h.toNat ++ [checkByte h]

/-- The IDLE frame as the part sends it: tag 0 and both parameter bytes 0 (R154). -/
def idleFrame : List Byte := headerBytes 0 0 0

/-- The reason byte of a reply: 0 for every status but NOT_AVAILABLE (R191). -/
def reasonByte (a : Answer) : Byte := match a.reason with
  | some r => r.code
  | none => 0

/-- A reply as it is clocked out: STATUS without content, REPLY with it (R154, R157). -/
def replyFrame (r : Reply) : List Byte := match r.answer.content with
  | none => headerBytes r.tag kindStatus (paramsOf r.answer.status.code (reasonByte r.answer))
  | some content =>
    let payload := [r.answer.status.code, reasonByte r.answer] ++ content
    headerBytes r.tag kindReply (BitVec.ofNat 16 payload.length) ++ payload ++ leBytes 2 (checksum payload).toNat

end Sys2Proof.Machine
end

