-- ==== Sys2Proof/Machine/ManifestOps.lean ====
section
/-! DEFINITION. The manifest unit: entry to CLOSING (R130), the arrivals it counts (R125, R126), the outcomes of van releases
and the reply they make up (R122), and the end of a van release (R124). -/

namespace Sys2Proof.Machine

/-- Drops every hold that names a slot, except on a dock in a van release of it (R130). -/
def dropHoldsOf (m : SlotNo) (x : Holding) : Holding :=
  allDocks.foldl (fun y d =>
    let k := y.docks.get d
    if (k.hold.any fun h => h.slot == m) && !k.inVanReleaseOf m then y.drop d else y) x

/-- A manifest entering CLOSING: its reason and each line's reserved at close are recorded, its timers removed (R130). -/
def Manifest.close (x : Manifest) (reason : CloseReason) : Manifest :=
  { x with
    state := .closing, stagedUntil := none, idleAt := none, reason := some reason
    lines := x.lines.map fun l => { l with reservedAtClose := some l.reserved } }

/-- Entry to CLOSING, steps 1 to 3 of R130; the offer and the refill pass stand at the end of the step. -/
def State.enterClosing (s : State) (m : SlotNo) (reason : CloseReason) : State :=
  let t := s.updManifest m fun x => x.close reason
  (t.withHolding (dropHoldsOf m t.holding)).noticeAll noticeManifest

/-- The first short UNLOAD line of a manifest, in line order (R126). -/
def Manifest.shortUnload (x : Manifest) : Option Nat := x.lines.findIdx? fun l => l.action == .unload && l.short

/-- The line of an UNLOAD hold on a dock (R125, R126). -/
def unloadHold (s : State) (d : DockNo) : Option Hold := (s.dock d).hold.filter fun h =>
  (lineOf s.manifests h.slot h.line).any fun l => l.action == .unload

/-- The id of the manifest in a slot. -/
def manifestId (s : State) (m : SlotNo) : Nat := match s.manifests.get m with
  | some x => x.id
  | none => 0

/-- Counts a van movement to a line, and restarts the idle deadline of an ACTIVE manifest (R124, R126, R128). -/
def State.countDone (s : State) (m : SlotNo) (i : Nat) : State :=
  (s.updLine m i fun l => { l with done := l.done + 1 }).restartIdle m

/-- A stamped arrival displaces an UNLOAD hold on its dock (R125). -/
def State.displace (s : State) (d : DockNo) : State := match unloadHold s d with
  | some h => (s.dropHold d).updLine h.slot h.line fun l => { l with displaced := satSucc 255 l.displaced }
  | none => s

/-- A van delivery is counted to the hold on its dock, to the ACTIVE manifest's first short UNLOAD line, or to none; with
the manifest id its record carries (R126). -/
def State.countDelivery (s : State) (d : DockNo) : State × Option Nat := match unloadHold s d with
  | some h => ((s.dropHold d).countDone h.slot h.line, some (manifestId s h.slot))
  | none =>
    match activeSlot s with
    | none => (s, none)
    | some m =>
      match (s.manifests.get m).bind Manifest.shortUnload with
      | some i => (s.countDone m i, some (manifestId s m))
      | none => (s, none)

/-! ## Outcomes of van releases -/

/-- Records a dock's outcome in a van request that still waits for it (R122). -/
def VanRequest.mark (r : VanRequest) (d : DockNo) (o : VanOutcome) : VanRequest :=
  { r with entries := r.entries.map fun e => if e.dock = d ∧ e.outcome.isNone then { e with outcome := some o } else e }

/-- The entries of a van request all of whose docks have an outcome, in ascending dock number as they were granted (R121,
R122). -/
def VanRequest.outcomes (r : VanRequest) : Option (List (DockNo × VanOutcome)) :=
  r.entries.mapM fun e => e.outcome.map fun o => (e.dock, o)

/-- Queues the reply of a van request that is complete (R122). -/
def State.answerVan (s : State) (r : VanRequest) : State := match r.outcomes with
  | some entries => s.sendReply .service r.tag { status := .ok, content := some (vanBytes entries) }
  | none => s

/-- The outcome of a van release's UNLOCKING phase reaches the request that waits for it; a request whose last outcome this
is, is answered (R122). -/
def State.vanOutcome (s : State) (d : DockNo) (o : VanOutcome) : State :=
  let waits := s.vanWaits.map fun r => r.mark d o
  waits.foldl State.answerVan { s with vanWaits := waits.filter fun r => r.outcomes.isNone }

/-! ## The end of a van release -/

/-- A van removal: the hold is dropped, and the line's done count goes up by 1 (R124). -/
def State.vanRemoved (s : State) (d : DockNo) (m : SlotNo) (i : Nat) : State := (s.dropHold d).countDone m i

end Sys2Proof.Machine
end

