-- ==== Sys2Proof/Machine/Custody.lean ====
section
/-! DEFINITION. The custody unit: marks (R22, R14), bike numbers (R21), the ends of a release (R9 to R12, R23), arrivals (R15
to R17), VERIFY (R4 to R7), the replies of post exchanges, the loss and recovery of a post (R24), and the news a post
sends. -/

namespace Sys2Proof.Machine

/-! ## Pieces -/

/-- The release or verify context of a dock. -/
def Dock.context (k : Dock) : Option Release := match k.release with
  | some r => some r
  | none => k.verifyCtx

/-- Whether a release has not had its UNLOCK acknowledged (1.4). -/
def Release.early (r : Release) : Bool := r.phase == .stamping || r.phase == .unlocking

/-- Whether a release's deadline has been reached, or had been when the loss of the post stopped it (R11, R24).
DEDUCED: assumption 16. -/
def Release.overdue (r : Release) (uptime : Nat) : Bool := r.deadline.any fun t => decide (t ≤ r.stopped.getD uptime)

/-- Empties a dock's command slot, and the dock leaves the command queue (R41). -/
def Line.clearSlot (l : Line) (d : DockNo) : Line :=
  { l.updLane d fun x => { x with slot := none } with queue := l.queue.filter fun e => e != d }

/-- Withdraws a dock's commands of some kinds: from the step list, and from the slot where one is pending there (R3). -/
def State.withdraw (s : State) (d : DockNo) (p : Cmd → Bool) : State :=
  let t := s.updDock d fun k => { k with steps := k.steps.filter fun c => !p c }
  if (s.lane d).slot.any fun c => c.origin == .custody && p c.cmd then { t with line := t.line.clearSlot d } else t

/-- UNLOCK and LOCK, which a removal withdraws (R11). -/
def Cmd.isLatch : Cmd → Bool
  | .unlock _ => true
  | .lock => true
  | _ => false

/-- Starts a refusal flash (R28). DESIGN CHOICE: assumption 10. -/
def State.flash (s : State) (d : DockNo) : State := s.updDock d fun k => { k with flash := some (s.uptime + 3) }

/-- The answer of a grant that has no content. -/
def plainAnswer (st : Status) (r : Option Reason) : Answer := { status := st, reason := r }

/-- Answers the port a rental was asked from, while its reply is owed (R9, R10). -/
def State.answerSide (s : State) (side : Side) (a : Answer) : State := match side with
  | .post => s
  | .kiosk tag => s.sendReply .kiosk tag a
  | .backhaul tag => s.sendReply .backhaul tag a

/-- For a rental, WRITE_TAG clear is put in the step list. -/
def State.putClear (s : State) (d : DockNo) (r : Release) : State := match r.purpose with
  | .rental _ _ => s.put d .clear
  | .van _ _ _ => s

/-! ## Marks (R22) -/

/-- Whether a context keeps a mark until the release ends: that of a RENTAL (R14). -/
def Dock.rentalContext (k : Dock) : Option Release := k.context.filter fun r => !r.isVan

/-- Keeps a mark or a clearing as the pending mark of a dock's context (R14). -/
def Dock.keepMark (k : Dock) (m : Marking) : Dock :=
  { k with
    release := k.release.map fun r => { r with pendingMark := some m }
    verifyCtx := k.verifyCtx.map fun r => { r with pendingMark := some m } }

/-- The fault mark a marking leaves (R22). -/
def Marking.result : Marking → Option Nat
  | .mark code => some code
  | .clear => none

/-- The tag write a marking asks for (R22). -/
def Marking.command : Marking → Cmd
  | .mark code => .mark code
  | .clear => .clearMark

/-- Writes a marking to the record, and to the tag where the bike number is not 0 and the post answers (R22, R24). -/
def Dock.takeMark (k : Dock) (m : Marking) : Dock :=
  { k with
    mark := m.result
    steps := if k.bike != some 0 && k.link == .online then putStep m.command k.steps else k.steps }

/-- A quarantine mark or a mark clearing reaches a dock (R14, R22, R24). DEDUCED: assumption 25. -/
def State.applyMark (s : State) (d : DockNo) (m : Marking) : State :=
  s.updDock d fun k =>
    if k.rentalContext.isSome then k.keepMark m
    else if k.bike.isNone then k
    else k.takeMark m

/-! ## The end of a release -/

/-- Tells who asked for a release that its grant is withdrawn: a reply to a port that waits, a refusal flash for a tap, the
outcome of a van release (R9, R10, R28, R122). -/
def State.tellWithdrawn (s : State) (d : DockNo) (r : Release) (a : Answer) (o : VanOutcome) : State :=
  match r.purpose with
  | .rental _ .post => s.flash d
  | .rental _ side => if r.waiting then s.answerSide side a else s
  | .van _ _ tapped => (if tapped then s.flash d else s).vanOutcome d o

/-- A release ends with the bike staying: the contexts are cleared, the reservation is released, and a pending mark is
applied (R6, R9, R10, R12, R14, R23). -/
def State.releaseStays (s : State) (d : DockNo) (r : Release) (custody : Custody) : State :=
  let t := (s.updDock d fun k => { k with custody, release := none, verifyCtx := none }).releaseSlot
  match r.pendingMark with
  | some m => t.applyMark d m
  | none => t

/-- A relock cancels a release (R6, R12).  A rental's WRITE_TAG clear is put in the step list at VERIFY too, where the one that
followed the LOCK may already have been carried out. DESIGN CHOICE: assumption 41. -/
def State.cancelRelease (s : State) (d : DockNo) (r : Release) : State :=
  (s.putClear d r).releaseStays d r .docked

/-- The record and the counts of a removal: START with the card's trips out, or VAN_OUT with the line's done count (R11,
R77, R124).  The bike number is the record's, so 0 where another dock has taken the number since (R21).
DESIGN CHOICE: assumption 40. -/
def State.recordRemoval (s : State) (d : DockNo) (r : Release) (late : Bool) : State :=
  let bike := (s.dock d).bike.getD 0
  match r.purpose with
  | .rental t _ =>
    (s.convert (.start t.serial t.guest t.plan t.trip) (now s) (dockNumber d) bike { late }).raiseTrips t.serial
  | .van m i _ =>
    (s.convert (.vanOut (manifestId s m)) (now s) (dockNumber d) bike { clockLate := (now s).isUptime }).vanRemoved d m i

/-- The UNLOCK acknowledgement, or a removal before it, answers a request that still waits: OK to a rental's port, UNLOCKED
for a van release (R10, R11, R122). -/
def State.tellGranted (s : State) (d : DockNo) (r : Release) : State := match r.purpose with
  | .rental t side =>
    if r.waiting then s.answerSide side { status := .ok, content := some (grantBytes d t.trip) } else s
  | .van _ _ _ => s.vanOutcome d .unlocked

/-- The dock of a removal: EMPTY, with no context and no bike (R11). -/
def Dock.emptied (k : Dock) : Dock := { k.bikeGone with custody := .empty, release := none, verifyCtx := none }

/-- A release completes as a removal (R6, R11). DEDUCED: assumption 24. -/
def State.removal (s : State) (d : DockNo) (late : Bool) : State := match (s.dock d).context with
  | none => s
  | some r => (((s.recordRemoval d r late).tellGranted d r).updDock d Dock.emptied).withdraw d Cmd.isLatch

/-- Whether a dock's release is overdue now. -/
def overdueAt (s : State) (d : DockNo) : Bool := (s.dock d).context.any fun r => r.overdue s.uptime

/-! ## Jams (R23) -/

/-- A report of a lock fault at a dock, with the mark it carries (R23, R137). -/
def State.markJam (s : State) (d : DockNo) : State := match (s.dock d).bike with
  | some 0 => s
  | none => s
  | some _ => s.applyMark d (.mark 11)

/-- What a jam does to a context: the grant is withdrawn before its UNLOCK was acknowledged, and the release is cancelled. -/
def State.jamContext (s : State) (d : DockNo) : State :=
  let k := s.dock d
  match k.context with
  | none => s
  | some r =>
    let t :=
      if k.release.isSome && r.early then
        s.tellWithdrawn d r (plainAnswer .notAvailable (some .jammed)) .jammed
      else s
    (t.putClear d r).releaseStays d r .jammed

/-- A dock becomes JAMMED, or is JAMMED and jams again (R23). DEDUCED: assumption 24. -/
def State.jamDock (s : State) (d : DockNo) : State :=
  let t := (s.report .lock 11 d (s.dock d).bike).jamContext d
  ((t.updDock d fun k => { k with custody := .jammed, arrival := none }).dropHold d).markJam d

/-! ## Bike numbers (R21) -/

/-- Writes a bike number into a dock; last return becomes absent where a different number is replaced (R1).  The number is
withheld no more (R21), also where 0 is written. DESIGN CHOICE: assumption 21. -/
def Dock.setBike (k : Dock) (n : Nat) : Dock :=
  { k with
    bike := some n, withheld := false
    lastReturn := if k.bike.any fun m => m != n then none else k.lastReturn }

/-- A dock whose number another dock takes: its own becomes 0, and QUERY is put in its step list (R21).
DESIGN CHOICE: assumption 21. -/
def Dock.yieldBike (k : Dock) : Dock := { k.setBike 0 with withheld := true, steps := putStep .query k.steps }

/-- The custody unit writes a bike number into a dock (R21). DESIGN CHOICE: assumption 21. -/
def State.writeBike (s : State) (d : DockNo) (n : Nat) : State :=
  match (if n = 0 then none else holderOf s d n) with
  | none => s.updDock d fun k => k.setBike n
  | some e =>
    if (s.dock d).withheld then (s.report .tag 12 d (some 0)).updDock d fun k => { k with mark := some 12 }
    else if (s.dock e).custody = .releasing then
      (s.removal e (overdueAt s e)).updDock d fun k => k.setBike n
    else (s.updDock e Dock.yieldBike).updDock d fun k => k.setBike n

/-! ## Arrivals -/

/-- How many docks other than one are DOCKED or ARRIVING (R15). -/
def otherBikes (s : State) (d : DockNo) : Nat :=
  (allDocks.filter fun e => e != d && ((s.dock e).custody == .docked || (s.dock e).custody == .arriving)).length

/-- An arrival starts (R15). -/
def State.startArrival (s : State) (d : DockNo) (tag : Option TagRecord) : State :=
  let a : Arrival :=
    { time := now s, clockLate := s.clock.isNone, lowFill := decide (otherBikes s d < s.settings.lowFill), tag
      locked := none }
  let t := s.updDock d fun k => { k with custody := .arriving, since := none, arrival := some a }
  (t.writeBike d (tagBike tag)).put d .lock

/-- The arrival's locked becomes yes with the settlement decided, and it is settled unless an older record of the dock
waits (R16). -/
def State.settleLocked (s : State) (d : DockNo) (a : Arrival) (what : Settlement) : State :=
  let t := s.updDock d fun k => { k with arrival := some { a with locked := some ⟨now s, what⟩ } }
  if (s.dock d).settle.isSome then t else (t.settleArrival d false).1

/-- Steps 2 and 3 of R16: the fault mark of the tag, or of a tag that could not be read.
DESIGN CHOICE: assumption 21. -/
def State.arrivalMark (s : State) (d : DockNo) (a : Arrival) : State := match a.tag with
  | none => (s.report .tag 12 d (s.dock d).bike).updDock d fun k => { k with mark := some 12 }
  | some t => match t.mark with
    | none => s
    | some c => s.updDock d fun k => if k.steps.any Cmd.isMarking then k else { k with mark := some c }

/-- A LOCKED reply to an arrival's LOCK (R16). -/
def State.lockArrival (s : State) (d : DockNo) (a : Arrival) : State :=
  let t := s.arrivalMark d a
  match tagStamp a.tag with
  | some st =>
    let u := (t.updDock d fun k => { k with lastReturn := some ⟨st.serial, a.time⟩ }).put d .clear
    (u.displace d).settleLocked d a (settlementOf s st a.time)
  | none =>
    let r := t.countDelivery d
    r.1.settleLocked d a (.vanIn r.2)

/-- An arrival whose LOCK was answered EMPTY: nothing is settled (R17). -/
def Dock.pulledOut (k : Dock) : Dock := { k.bikeGone with custody := .empty, arrival := none }

/-! ## Missing bikes (R18) -/

/-- A bike has left a DOCKED dock without a release (R18, R19). -/
def State.bikeMissing (s : State) (d : DockNo) : State :=
  ((s.dropHold d).report .lock 15 d (s.dock d).bike).updDock d fun k => { k.bikeGone with custody := .empty }

/-! ## VERIFY -/

/-- Entry to VERIFY (R4).  A WRITE_TAG clear in the emptied step list makes stale tag yes (R20). -/
def Dock.enterVerify (k : Dock) : Dock :=
  { k with
    custody := .verify, stale := k.stale || k.steps.contains .clear, steps := [.query], lastPattern := none
    flash := none, arrival := none, release := none
    verifyCtx := match k.release with
      | some r => some { r with waiting := false }
      | none => k.verifyCtx }

/-- Whether the bike a VERIFY dock's QUERY found has a trip or an arrival that is not yet accounted for (R5). -/
def unaccounted (k : Dock) (tag : Option TagRecord) : Bool :=
  (match tag with
    | none => k.bike.isNone
    | some t =>
      if t.stamp.isSome then !k.stale && k.settle.isNone
      else k.bike != some t.bike)
    || (k.bike.isSome && k.since.isNone)

/-- A LOAD hold on a dock (R5). -/
def loadHold (s : State) (d : DockNo) : Option Hold := (s.dock d).hold.filter fun h =>
  (lineOf s.manifests h.slot h.line).any fun l => l.action == .load

/-- A VERIFY dock without a bike becomes EMPTY; a LOAD hold is dropped (R5). -/
def State.verifyEmpty (s : State) (d : DockNo) : State :=
  (if (loadHold s d).isSome then s.dropHold d else s).updDock d fun k => { k.bikeGone with custody := .empty }

/-- A bike already accounted for (R5).  A fault mark of the tag is copied last, over the mark 12 of a withheld number (R21).
DESIGN CHOICE: assumption 21. -/
def State.verifyAccounted (s : State) (d : DockNo) (x : BikeReading) : State :=
  let k := s.dock d
  let n := tagBike x.tag
  let since := if k.bike = some n then k.since else some (now s)
  let t := (s.writeBike d n).updDock d fun k => { k with since }
  let u := match tagMark x.tag with
    | some c => t.updDock d fun k => { k with mark := some c }
    | none => t
  if x.latched then u.updDock d fun k => { k with custody := .docked } else u.put d .lock

/-- The test of a stale tag at a QUERY reply showing the bike (R20).  "No tag" is taken as no stamp (R192).
DESIGN CHOICE: assumption 20. -/
def State.staleTest (s : State) (d : DockNo) (tag : Option TagRecord) : State :=
  if (s.dock d).stale then
    if (tagStamp tag).isSome then s.put d .clear else s.updDock d fun k => { k with stale := false }
  else s

/-- A bike found in a VERIFY dock resolves it: with a verify context LOCK is put in the step list, and WRITE_TAG clear after
it for a rental (R6); without one the bike is an arrival or is accounted for (R5). -/
def State.resolveBike (s : State) (d : DockNo) (x : BikeReading) : State := match (s.dock d).verifyCtx with
  | some r => (s.put d .lock).putClear d r
  | none => if unaccounted (s.dock d) x.tag then s.startArrival d x.tag else s.verifyAccounted d x

/-- The QUERY reply of a VERIFY dock (R5, R6).  At a sweep reply the stale test stands before the resolution, in the order of
the table of R19; at a reply to VERIFY's own QUERY it follows, in the order of R5 and R6.
DESIGN CHOICE: assumption 22. -/
def State.verifyReply (s : State) (d : DockNo) (swept : Bool) (b : Option BikeReading) : State :=
  match (s.dock d).verifyCtx, b with
  | some _, none => s.removal d true
  | none, none => s.verifyEmpty d
  | _, some x => if swept then (s.staleTest d x.tag).resolveBike d x else (s.resolveBike d x).staleTest d x.tag

/-! ## Replies -/

/-- The tag read at a DOCKED dock is reconciled with the bike number of the record (R19). -/
def State.reconcileBike (s : State) (d : DockNo) (t : TagRecord) : State := match (s.dock d).bike with
  | none => s
  | some n =>
    if n = 0 then s.writeBike d t.bike
    else if t.bike = n then s
    else (s.writeBike d t.bike).updDock d fun k => { k with since := some (now s) }

/-- The QUERY reply of a DOCKED dock that shows a bike (R19). -/
def State.dockedReply (s : State) (d : DockNo) (x : BikeReading) : State :=
  let t := if x.latched then s else s.put d .lock
  match x.tag with
  | some r => t.reconcileBike d r
  | none => t

/-- A good QUERY reply, to a sweep QUERY or to one the custody unit issued (R19).  At a JAMMED, ARRIVING or RELEASING dock the
number read is neither taken nor reported (R21). DESIGN CHOICE: assumption 21. -/
def State.queryReply (s : State) (d : DockNo) (swept : Bool) (b : Option BikeReading) : State :=
  let k := s.dock d
  match k.custody, b with
  | .verify, _ => s.verifyReply d swept b
  | .docked, none => s.bikeMissing d
  | .docked, some x => (s.dockedReply d x).staleTest d x.tag
  | .empty, none => s
  | .empty, some x => (s.staleTest d x.tag).startArrival d x.tag
  | .releasing, none =>
    if k.release.any fun r => r.phase == .opened then s.removal d (overdueAt s d) else s
  | .releasing, some x => s.staleTest d x.tag
  | .arriving, none => s
  | .arriving, some x => s.staleTest d x.tag
  | .jammed, none => s
  | .jammed, some x => s.staleTest d x.tag

/-- Changes a dock's release context. -/
def State.updRelease (s : State) (d : DockNo) (f : Release → Release) : State :=
  s.updDock d fun k => { k with release := k.release.map f }

/-- A reply to UNLOCK at a dock in UNLOCKING; `window` is the one sent (R10). -/
def State.unlockReply (s : State) (d : DockNo) (window : Nat) (st : PostStatus) : State :=
  match (s.dock d).release with
  | none => s
  | some r =>
    if r.phase != .unlocking then s
    else if st = .ok then
      (s.updRelease d fun q =>
        { q with phase := .opened, deadline := some (s.uptime + window), waiting := false }).tellGranted d r
    else s.jamDock d

/-- A reply to the LOCK of a VERIFY dock (R5, R6). DESIGN CHOICE: assumption 23. -/
def State.verifyLock (s : State) (d : DockNo) (st : PostStatus) : State :=
  let k := s.dock d
  match k.verifyCtx with
  | some r =>
    if st = .locked then s.cancelRelease d r else if st = .empty then s.removal d true else s.jamDock d
  | none =>
    if st = .locked then
      if k.bike.isSome && k.since.isSome then s.updDock d fun q => { q with custody := .docked } else s
    else if st = .empty then s.verifyEmpty d
    else s.jamDock d

/-- A reply to the LOCK of an arrival (R16, R17). -/
def State.arrivalLock (s : State) (d : DockNo) (st : PostStatus) : State := match (s.dock d).arrival with
  | none => s
  | some a =>
    if a.locked.isSome then s
    else if st = .locked then s.lockArrival d a
    else if st = .empty then s.updDock d Dock.pulledOut
    else s.jamDock d

/-- A reply to the LOCK of a release: it decides a RELOCKING one (R12); before that, only a lock failure counts.
DESIGN CHOICE: assumption 23. -/
def State.releaseLock (s : State) (d : DockNo) (st : PostStatus) : State := match (s.dock d).release with
  | none => s
  | some r =>
    if st = .lockFail then s.jamDock d
    else if r.phase != .relocking then s
    else if st = .locked then s.cancelRelease d r
    else s.removal d (overdueAt s d)

/-- A reply to LOCK (R5, R6, R12, R16, R17, R19). DESIGN CHOICE: assumption 23. -/
def State.lockReply (s : State) (d : DockNo) (st : PostStatus) : State := match (s.dock d).custody with
  | .verify => s.verifyLock d st
  | .arriving => s.arrivalLock d st
  | .releasing => s.releaseLock d st
  | .docked => if st = .locked then s else if st = .empty then s.bikeMissing d else s.jamDock d
  | .empty => s
  | .jammed => s

/-- A grant is withdrawn with the bike staying DOCKED (R9, R10). -/
def State.withdrawGrant (s : State) (d : DockNo) (r : Release) (a : Answer) (o : VanOutcome) : State :=
  (s.tellWithdrawn d r a o).releaseStays d r .docked

/-- A reply to WRITE_TAG stamp at a dock in STAMPING (R9). -/
def State.stampReply (s : State) (d : DockNo) (st : PostStatus) : State := match (s.dock d).release with
  | none => s
  | some r =>
    if r.phase != .stamping then s
    else if st = .ok then
      (s.updRelease d fun q => { q with phase := .unlocking }).put d (.unlock s.settings.memberWindow)
    else
      let t := s.withdrawGrant d r (plainAnswer .tagFail none) .jammed
      (t.report .tag 12 d (t.dock d).bike).applyMark d (.mark 12)

/-- A WRITE_TAG clear has failed: stale tag becomes yes; the first failure reports a TAG fault and sets mark 12 (R20).
DESIGN CHOICE: assumption 20. -/
def State.clearFailed (s : State) (d : DockNo) : State :=
  (if (s.dock d).stale then s else (s.report .tag 12 d (s.dock d).bike).applyMark d (.mark 12)).updDock d fun k =>
    { k with stale := true }

/-- A reply to WRITE_TAG clear (R20). -/
def State.clearReply (s : State) (d : DockNo) (st : PostStatus) : State :=
  if st = .ok then s.updDock d fun k => { k with stale := false } else s.clearFailed d

/-- LINE_FAIL of a LOCK: it is put in the step list again where the dock still waits for it; a VERIFY dock without a
context waits with an empty step list (R5, R6, R12, R17). -/
def State.lockLost (s : State) (d : DockNo) : State :=
  let k := s.dock d
  match k.custody with
  | .verify => if k.verifyCtx.isSome then s.put d .lock else s.updDock d fun q => { q with steps := [] }
  | .arriving => if k.arrival.any fun a => a.locked.isNone then s.put d .lock else s
  | .releasing => if k.release.any fun r => r.phase == .relocking then s.put d .lock else s
  | .docked => s
  | .empty => s
  | .jammed => s

/-- LINE_FAIL of an UNLOCK (R10). -/
def State.unlockLost (s : State) (d : DockNo) : State := match (s.dock d).release with
  | none => s
  | some r =>
    if r.phase != .unlocking then s
    else (s.putClear d r).withdrawGrant d r (plainAnswer .lineFail none) .lineFail

/-- The grant whose WRITE_TAG stamp ended in LINE_FAIL is withdrawn (R9). -/
def State.stampWithdrawn (s : State) (d : DockNo) : State := match (s.dock d).release with
  | none => s
  | some r => if r.phase = .stamping then s.withdrawGrant d r (plainAnswer .lineFail none) .lineFail else s

/-- LINE_FAIL of a WRITE_TAG stamp: the post may have written it (R9, R20). -/
def State.stampLost (s : State) (d : DockNo) : State :=
  (s.stampWithdrawn d).updDock d fun k => { k with stale := true }

/-- LINE_FAIL of a QUERY: a VERIFY dock without a context waits with an empty step list for the next sweep (R5, R6, R51).
DEDUCED: assumption 22. -/
def State.queryLost (s : State) (d : DockNo) : State :=
  s.updDock d fun k => if k.custody = .verify ∧ k.verifyCtx.isNone then { k with steps := [] } else k

/-- LINE_FAIL of a custody or sweep command (R3). -/
def State.lineFail (s : State) (d : DockNo) : Cmd → State
  | .query => s.queryLost d
  | .unlock _ => s.unlockLost d
  | .lock => s.lockLost d
  | .stamp _ => s.stampLost d
  | .clear => s.clearFailed d
  | .mark _ => s
  | .clearMark => s
  | .display _ => s
  | .probe => s

/-! ## Loss and recovery (R24) -/

/-- A release frozen before its UNLOCK was acknowledged answers its requester (R24, R122). -/
def State.tellLost (s : State) (d : DockNo) (r : Release) : State := match r.purpose with
  | .rental _ side => if r.waiting then s.answerSide side (plainAnswer .notAvailable (some .lost)) else s
  | .van _ _ _ => s.vanOutcome d .lost

/-- The record of a dock that goes LOST (R24).  A WRITE_TAG clear in the emptied step list makes stale tag yes (R20). -/
def Dock.frozen (k : Dock) (uptime : Nat) : Dock :=
  { k with
    link := .lost, stale := k.stale || k.steps.contains .clear, steps := [], arrival := none
    release := k.release.map fun r => { r with stopped := r.deadline.map fun _ => uptime, waiting := false } }

/-- The custody of a LOST dock is frozen (R24). -/
def State.freeze (s : State) (d : DockNo) : State :=
  let k := s.dock d
  let t := match k.release with
    | some r => if r.early then s.tellLost d r else s
    | none => s
  let u := t.updDock d fun q => q.frozen s.uptime
  if k.custody = .releasing ∨ (k.custody = .verify ∧ k.verifyCtx.isSome) then u else u.dropHold d

/-- The post of a LOST dock has answered (R24, R48). -/
def Dock.recovered (k : Dock) : Dock :=
  let q := { k with link := LinkState.online }
  if k.custody = .jammed then q else q.enterVerify

/-! ## News -/

/-- Whether a QUERY of a dock waits in its step list or its slot, or is in flight (R7). DEDUCED: assumption 22. -/
def queryThere (s : State) (d : DockNo) : Bool :=
  (s.dock d).steps.contains .query
    || (s.lane d).slot.any (fun c => c.origin == .custody && c.cmd == .query)
    || s.line.inFlight.any (fun x => x.dock == d && x.cmd == .query)

/-- INSERT or REMOVED news at a VERIFY dock (R7). -/
def State.verifyNews (s : State) (d : DockNo) : State := if queryThere s d then s else s.put d .query

/-- REMOVED news (R7, R11, R15, R17, R18, R23). -/
def State.removedNews (s : State) (d : DockNo) : State := match (s.dock d).custody with
  | .verify => s.verifyNews d
  | .docked => s.bikeMissing d
  | .releasing => s.removal d (overdueAt s d)
  | .empty => s
  | .arriving => s
  | .jammed => s

/-- INSERT news at a dock whose release is OPEN: a push-back, or another bike (R13). DEDUCED: assumption 16. -/
def State.pushBack (s : State) (d : DockNo) (tag : Option TagRecord) : State :=
  if tag.all fun t => some t.bike == (s.dock d).bike then
    (s.updRelease d fun q => { q with phase := .relocking }).put d .lock
  else (s.removal d (overdueAt s d)).startArrival d tag

/-- INSERT news (R7, R13, R15, R17, R18, R23). -/
def State.insertNews (s : State) (d : DockNo) (tag : Option TagRecord) : State :=
  let k := s.dock d
  match k.custody with
  | .verify => s.verifyNews d
  | .empty => s.startArrival d tag
  | .docked => s.put d .query
  | .releasing => if k.release.any fun r => r.phase == .opened then s.pushBack d tag else s
  | .arriving => s
  | .jammed => s

/-! ## The end of a record (R2) -/

/-- Ends whatever a record carries and clears it (R2): the hold is dropped, and a context is abandoned with its
reservation. -/
def State.clearDock (s : State) (d : DockNo) : State :=
  let t := (s.dropHold d).updDock d fun _ => Dock.cleared
  if (s.dock d).context.isSome then t.releaseSlot else t

end Sys2Proof.Machine
end

