-- ==== Sys2Proof/Machine/Authorise.lean ====
section
/-! DEFINITION. The availability of a dock (R25) and the RELEASE_ANY pick (R26), the authorisation decision (R70 to R73), the
grants of rentals and van releases (R8, R121), taps (R72, R74, R123), and the attribution of keyed faults (R138, R141). -/

namespace Sys2Proof.Machine

/-! ## Availability -/

/-- The reason for which a dock is not available for a rental, the first in the order of R25; none where it is available. -/
def unavailable (k : Dock) : Option Reason :=
  if !k.mapped then some .unmapped
  else if k.link = .lost then some .lost
  else match k.custody with
    | .verify => some .verify
    | .jammed => some .jammed
    | .empty => some .empty
    | .releasing => some .releasing
    | .arriving => some .arriving
    | .docked =>
      if k.hold.isSome then some .held
      else if k.settle.isSome then some .pending
      else if k.stale then some .staleTag
      else if k.mark.isSome ∨ k.bike.getD 0 = 0 then some .bikeFault
      else none

/-- The dock RELEASE_ANY picks: the available dock with the earliest docked since, the lowest number on a tie (R26).  No
available dock carries a mark, so the order of R117 is that of docked since alone. -/
def pickDock (s : State) : Option DockNo := firstTaken s.docks fun k => (unavailable k).isNone

/-! ## The decision -/

/-- The plan a card entry rides on and the money it has; absent for STAFF (R57). -/
def Card.riding (c : Card) : Option (Fin 8 × Int) := match c.body with
  | .member _ p b _ => some (p, b)
  | .guest _ p d _ => some (p, d)
  | .staff _ => none

/-- What steps 1 to 7 of the decision find (R70, R71). -/
inductive CardVerdict where
  | fails (st : Status)
  | staff (c : Card)
  | passes (c : Card) (plan : Fin 8)
deriving DecidableEq, Repr

/-- Whether funds are too low: below the plan's minimum, or a deposit of 0 (R71). -/
def fundsLow (c : Card) (money : Int) (t : Tariff) : Bool := decide (money < t.minFunds) || (c.isGuest && money == 0)

/-- Steps 4 to 7 for an entry that is not STAFF (R71). -/
def checkRider (s : State) (c : Card) (plan : Fin 8) (money : Int) : CardVerdict :=
  let t := s.tariffs.get plan
  match c.status with
  | .denied => .fails .denied
  | .suspended => .fails .suspended
  | .active =>
    if cardExpired s c then .fails .expired
    else if t.limit ≤ c.trips + rentalsInProgress s c.serial then .fails .limit
    else if fundsLow c money t then .fails .lowBalance
    else .passes c plan

/-- Steps 1 to 7 of the authorisation decision (R70, R71). -/
def checkCard (s : State) (serial : Serial) : CardVerdict :=
  if !commissioned s then .fails .notCommissioned
  else match findCard s serial with
    | none => .fails .unknownCard
    | some c => match c.riding with
      | none => .staff c
      | some (plan, money) => checkRider s c plan money

/-- Step 8 for a named dock, or the pick where none is named (R73). -/
def chooseDock (s : State) : Option DockNo → Except Reason DockNo
  | some d => match unavailable (s.dock d) with
    | some r => .error r
    | none => .ok d
  | none => match pickDock s with
    | some d => .ok d
    | none => .error .noneFree

/-- The outcome of the decision (R70). -/
inductive Verdict where
  | refused (st : Status) (r : Option Reason)
  | staff (c : Card)
  | granted (d : DockNo) (c : Card) (plan : Fin 8)
deriving DecidableEq, Repr

/-- The authorisation decision, from the first check to the grant (R70). -/
def decideRental (s : State) (serial : Serial) (dock : Option DockNo) : Verdict :=
  match checkCard s serial with
  | .fails st => .refused st none
  | .staff c => .staff c
  | .passes c plan => match chooseDock s dock with
    | .error r => .refused .notAvailable (some r)
    | .ok d => if s.journal.canReserve then .granted d c plan else .refused .journalFull none

/-! ## Grants -/

/-- The stamp a grant builds (R8). -/
def grantStamp (s : State) (d : DockNo) (c : Card) (plan : Fin 8) : Stamp :=
  { station := s.settings.stationNumber, dock := dockNumber d, start := (now s).value, serial := c.serial
    guest := c.isGuest, plan, trip := nextTrip s }

/-- A dock's entry to RELEASING with a release context, its first command put in the step list (R8). -/
def Dock.granted (k : Dock) (purpose : Purpose) (phase : Phase) (waiting : Bool) (c : Cmd) : Dock :=
  { k with
    custody := .releasing
    release := some { purpose, phase, deadline := none, stopped := none, pendingMark := none, waiting }
    steps := putStep c k.steps }

/-- Whether a rental was asked from a port. -/
def Side.isPort : Side → Bool
  | .post => false
  | .kiosk _ => true
  | .backhaul _ => true

/-- A rental grant: step 10 of the decision with the reservation of step 9 (R8, R73). -/
def State.grantRental (s : State) (d : DockNo) (c : Card) (plan : Fin 8) (side : Side) : State :=
  let t := grantStamp s d c plan
  ({ s.reserve with tripSerial := nextTrip s }.putCard { c with lastUse := some (now s).value }).updDock d fun k =>
    k.granted (.rental t side) .stamping side.isPort (.stamp t)

/-- A van grant of one dock (R8, R121). -/
def State.grantVan (s : State) (d : DockNo) (m : SlotNo) (i : Nat) (tapped : Bool) : State :=
  s.reserve.updDock d fun k =>
    k.granted (.van m i tapped) .unlocking (!tapped) (.unlock s.settings.vanWindow)

/-! ## Van grants -/

/-- The docks held for a line that are DOCKED and ONLINE, ascending (R121). -/
def vanReady (s : State) (m : SlotNo) (i : Nat) : List DockNo :=
  allDocks.filter fun d =>
    (s.dock d).hold == some ⟨m, i⟩ && (s.dock d).custody == .docked && (s.dock d).online

/-- Grants van releases of docks in turn, stopping where the journal refuses a reservation; with the docks granted
(R121). -/
def grantVans (m : SlotNo) (i : Nat) : List DockNo → State → State × List DockNo
  | [], s => (s, [])
  | d :: ds, s =>
    if s.journal.canReserve then
      let r := grantVans m i ds (s.grantVan d m i false)
      (r.1, d :: r.2)
    else (s, [])

/-! ## Taps -/

/-- The staff tap at the manifest unit; a refusal starts a flash (R123). -/
def State.staffTap (s : State) (d : DockNo) (serial : Serial) : State :=
  match activeSlot s with
  | none => s.flash d
  | some m =>
    match (s.manifests.get m).bind Manifest.staff, loadHold s d with
    | some owner, some h =>
      if owner != serial || h.slot != m then s.flash d
      else if (s.dock d).custody != .docked || !(s.dock d).online then s.flash d
      else if 4 ≤ vanReleasesOpen s.docks ∨ !s.journal.canReserve then s.flash d
      else (s.grantVan d m h.line true).restartIdle m
    | _, _ => s.flash d

/-- TAP news at a dock (R70, R72, R74). -/
def State.tapNews (s : State) (d : DockNo) (serial : Serial) : State :=
  match decideRental s serial (some d) with
  | .refused _ _ => s.flash d
  | .staff c => if c.status != .active || cardExpired s c then s.flash d else s.staffTap d c.serial
  | .granted e c plan => s.grantRental e c plan .post

/-! ## Faults that mark -/

/-- Whether the policy of a report's code and its naming a bike call for quarantine (R141). -/
def callsForMark (s : State) (r : Report) : Bool := s.faults.policyOf r.code == .quarantine && r.bike.isSome

/-- A report from a post's keypad, the kiosk or the crew: the quarantine mark it calls for is sent before it is admitted
(R141).  With the outcome of admission, the fault number, and whether a mark was sent. -/
def State.judgeReport (s : State) (r : Report) : State × Admission × Nat × Bool :=
  let marks := callsForMark s r
  let t := if marks then (match r.dock with
      | some d => s.applyMark d (.mark r.code)
      | none => s) else s
  let a := t.takeReport r
  (a.1, a.2.1, a.2.2, marks)

/-- Whether a key was pressed within the attribution window of a last return; a time before the return counts as a
difference of 0 (R138, R178). -/
def attributed (s : State) (l : LastReturn) : Bool := decide ((now s).value - l.time.value < s.settings.attribution)

/-- What FAULT_KEY news names (R138). -/
def keyReport (s : State) (d : DockNo) (code : Nat) : Report :=
  let k := s.dock d
  if k.custody = .docked then
    { source := .postKey, code, dock := some d, bike := k.bike
      reporter := (k.lastReturn.filter (attributed s)).map LastReturn.serial }
  else { source := .postKey, code, dock := some d, bike := none, reporter := none }

/-- FAULT_KEY news with a code 1-9 (R138, R141). -/
def State.keyNews (s : State) (d : DockNo) (code : Nat) : State := (s.judgeReport (keyReport s d code)).1

end Sys2Proof.Machine
end

