-- ==== Sys2Proof/Machine/LineCtl.lean ====
section
/-! DEFINITION. The post line controller: slots and the command queue (R41), hand-overs (R3), the indicator and its SHOW (R27,
R42), the sweep walk (R50), the arbiter (R40), errors, loss and probing (R43 to R48), and the ends of exchanges and rounds
(R35 to R39). -/

namespace Sys2Proof.Machine

/-! ## Slots -/

/-- Issues a command into a dock's empty slot; the dock joins the tail of the queue (R41). -/
def Line.issue (l : Line) (d : DockNo) (c : Cmd) (o : Origin) : Line :=
  { l.updLane d fun x => { x with slot := some ⟨c, o⟩ } with queue := l.queue ++ [d] }

/-- Whether a dock's slot is empty and no exchange for it is in flight (R41). -/
def Line.idleAt (l : Line) (d : DockNo) : Bool := (l.lane d).slot.isNone && !l.busyWith d

/-- Whether a dock's slot is free for the custody unit: empty, or holding a pending SHOW (R41). -/
def Line.freeForCustody (l : Line) (d : DockNo) : Bool :=
  (l.lane d).slot.all (fun c => c.origin == .display) && !l.busyWith d

/-- The pattern of a SHOW. -/
def Cmd.pattern : Cmd → Option Pattern
  | .display p => some p
  | _ => none

/-- A SHOW's pattern returns to the SHOW-pending flag, unless the flag holds a newer one (R42). -/
def Lane.takeBack (x : Lane) (c : Cmd) : Lane := { x with display := x.display.or c.pattern }

/-- A custody command takes a free slot and joins the tail of the queue; a SHOW that held it goes back to its flag (R42). -/
def Line.takeCustody (l : Line) (d : DockNo) (c : Cmd) : Line :=
  let back (x : Lane) : Lane := match x.slot with
    | some shown => x.takeBack shown.cmd
    | none => x
  { l.updLane d fun x => { back x with slot := some ⟨c, .custody⟩ } with
    queue := (l.queue.filter fun e => e != d) ++ [d] }

/-! ## The work of a step's end: hand-overs, indicator, SHOW, sweep -/

/-- The dock table and the line controller, which hand-overs tie together. -/
structure Work where
  docks : Docks
  line  : Line
deriving DecidableEq, Repr

/-- Hands the head of a dock's step list to its free slot (R3). -/
def handOverDock (w : Work) (d : DockNo) : Work :=
  let k := w.docks.get d
  match k.steps with
  | [] => w
  | c :: rest =>
    if k.online && w.line.freeForCustody d then
      { docks := Docks.update w.docks d fun q => { q with steps := rest }, line := w.line.takeCustody d c }
    else w

/-- The indicator pattern derived from a record (R27). -/
def pattern (k : Dock) : Pattern :=
  if k.flash.isSome then .redBlink
  else if k.custody = .verify then .off
  else if k.custody = .releasing then .greenBlink
  else if k.custody = .jammed ∨ k.mark.isSome ∨ k.stale then .red
  else if k.hold.isSome then .amber
  else if k.custody = .docked ∧ (unavailable k).isNone then .green
  else .off

/-- Asks for SHOW where a mapped, answering dock's derived pattern differs from the last one (R27, R42). -/
def indicateDock (w : Work) (d : DockNo) : Work :=
  let k := w.docks.get d
  let p := pattern k
  if k.online && k.lastPattern != some p then
    { docks := Docks.update w.docks d fun q => { q with lastPattern := some p }
      line := w.line.updLane d fun x => { x with display := some p } }
  else w

/-- Moves a dock's SHOW from its flag into its empty slot (R42). -/
def showDock (w : Work) (d : DockNo) : Work :=
  match (w.line.lane d).display with
  | some p =>
    if (w.docks.get d).online && w.line.idleAt d then
      { w with line := (w.line.updLane d fun x => { x with display := none }).issue d (.display p) .display }
    else w
  | none => w

/-- Whether a sweep QUERY is pending or in flight (R50). -/
def Line.sweepOut (l : Line) : Bool :=
  (allDocks.any fun d => (l.lane d).slot.any fun c => c.origin == .sweep) || l.inFlight.any fun x => x.origin == .sweep

/-- The dock the next step of the walk asks: the lowest at or above the position that qualifies (R50). -/
def sweepDock (w : Work) (position : Nat) : Option DockNo :=
  allDocks.find? fun d => decide (position ≤ dockNumber d) && (w.docks.get d).online && w.line.idleAt d

/-- The next step of a sweep walk, taken when no sweep QUERY is out (R50). -/
def sweepStep (w : Work) : Work := match w.line.sweepAt with
  | none => w
  | some position =>
    if w.line.sweepOut then w
    else match sweepDock w position with
      | some d => { w with line := { w.line.issue d .query .sweep with sweepAt := some (dockNumber d + 1) } }
      | none => { w with line := { w.line with sweepAt := none } }

/-! ## The arbiter (R40) -/

/-- The exchange of the command at the head of the queue begins; with an empty queue the line is FREE (R34, R40). -/
def Line.startExchange (l : Line) (w : Settings) (map : Vector (Option Nat) 64) : Line := match l.queue with
  | [] => { l with arbiter := .free, rounds := 0 }
  | d :: rest => match (l.lane d).slot with
    | none => { l with arbiter := .free, rounds := 0, queue := rest }
    | some c =>
      let address := (map.get d).getD 0
      { l.updLane d fun x => { x with slot := none } with
        arbiter := .exchange { dock := d, address, cmd := c.cmd, origin := c.origin, tries := 1, discard := false }
        rounds := 0, queue := rest, sent := commandFrame w address c.cmd }

/-- A call round begins with CALL_POLL (R36, R40). -/
def Line.startRound (l : Line) (w : Settings) : Line :=
  { l with arbiter := .round none, rounds := satSucc 2 l.rounds, sent := callPollFrame w l.pointer }

/-- The arbiter's choice, made while the line is free (R40). -/
def Line.choose (l : Line) (w : Settings) (map : Vector (Option Nat) 64) : Line := match l.arbiter with
  | .free =>
    if l.call && (decide (l.rounds < 2) || l.queue.isEmpty) then l.startRound w else l.startExchange w map
  | .exchange _ => l
  | .round _ => l

/-- All that the line controller and the custody unit do between them at the end of a step: hand-overs in ascending dock
number, indicators, SHOWs, the sweep walk, and the arbiter's choice. DESIGN CHOICE: assumption 11. -/
def lineWork (w : Settings) (map : Vector (Option Nat) 64) (x : Work) : Work :=
  let y := sweepStep (allDocks.foldl showDock (allDocks.foldl indicateDock (allDocks.foldl handOverDock x)))
  { y with line := y.line.choose w map }

/-! ## Errors and loss -/

/-- One error counted for a dock: the line error count, and for an ONLINE dock the window count, whose window opens at the
first (R43, R44). -/
def Lane.countError (x : Lane) (online : Bool) (windowEnd : Nat) : Lane :=
  let y := { x with errors := satSucc 255 x.errors }
  if online then
    { y with
      windowEnd := if x.window = 0 then some windowEnd else x.windowEnd
      window := satSucc 32 x.window }
  else y

/-- Counts one error for a dock (R43, R44). -/
def State.countError (s : State) (d : DockNo) : State :=
  s.updLane d fun x => x.countError (s.dock d).online (s.uptime + s.settings.dropWindow)

/-- Whether an ONLINE dock's window count has reached the drop threshold (R44). -/
def windowFull (s : State) (d : DockNo) : Bool :=
  (s.dock d).online && decide (s.settings.dropThreshold ≤ (s.lane d).window)

/-- UNLOCK, whatever its window. -/
def Cmd.isUnlock : Cmd → Bool
  | .unlock _ => true
  | _ => false

/-- A custody command that was pending when its dock was dropped comes back as LINE_FAIL (R46).  An UNLOCK of a van release
does not end the release: it stays as it was, to be frozen with the outcome LOST (R122). DESIGN CHOICE: assumption 46. -/
def State.pendingLost (s : State) (d : DockNo) (c : Cmd) : State :=
  if c.isUnlock && (s.dock d).release.any Release.isVan then s else s.lineFail d c

/-- The command pending in a dock's slot is removed; a custody command is handed back (R46). -/
def State.handBack (s : State) (d : DockNo) : State :=
  let t := { s with line := s.line.clearSlot d }
  match (s.lane d).slot with
  | some c => if c.origin = .custody then t.pendingLost d c.cmd else t
  | none => t

/-- A dock is dropped to LOST (R46). -/
def State.dropDock (s : State) (d : DockNo) : State :=
  let t := (s.handBack d).freeze d
  (t.report .line 10 d (t.dock d).bike).updLane d fun x =>
    { x with display := none, window := 0, windowEnd := none, probeAt := some (s.uptime + s.settings.probeInterval) }

/-! ## Exchanges -/

/-- The level of the call wire, as a command carries it. DESIGN CHOICE: assumption 7. -/
def State.hear (s : State) (call : Bool) : State := { s with line := { s.line with call } }

/-- The line is free (R35, R37). -/
def State.freeLine (s : State) : State := { s with line := { s.line with arbiter := .free } }

/-- The LINE_FAIL of an exchange goes to its origin (R35, R42). -/
def State.exchangeLost (s : State) (x : Exchange) : State := match x.origin with
  | .custody => s.lineFail x.dock x.cmd
  | .sweep => s.lineFail x.dock x.cmd
  | .display => s.updLane x.dock fun y => y.takeBack x.cmd
  | .probe => s

/-- A failed PROBE (R47). -/
def State.probeFailed (s : State) (d : DockNo) : State :=
  (s.countError d).updLane d fun x => { x with probeAt := some (s.uptime + s.settings.probeInterval) }

/-- The same command frame is sent again (R35). -/
def State.retry (s : State) (x : Exchange) : State :=
  { s with
    line := { s.line with
      arbiter := .exchange { x with tries := x.tries + 1 }, sent := commandFrame s.settings x.address x.cmd } }

/-- An exchange ends in LINE_FAIL: `last` says that its tries were used up (R35, R45, R46).  The LINE_FAIL comes before the
loss, for an UNLOCK in flight of a van release too (R3, R122). DEDUCED: assumption 26; DESIGN CHOICE: assumption 46. -/
def State.failExchange (s : State) (x : Exchange) (last : Bool) : State :=
  let t := if last then s.updLane x.dock fun y => { y with failures := satSucc 3 y.failures } else s
  let u := t.freeLine.exchangeLost x
  if windowFull t x.dock || 3 ≤ (t.lane x.dock).failures then u.dropDock x.dock else u

/-- A bad reply to a try (R35, R43 to R47). DEDUCED: assumption 26. -/
def State.badTry (s : State) (x : Exchange) : State :=
  if x.discard then s.freeLine
  else if x.origin = .probe then (s.probeFailed x.dock).freeLine
  else
    let t := s.countError x.dock
    let last := decide (1 + s.settings.retryLimit ≤ x.tries)
    if last || windowFull t x.dock then t.failExchange x last else t.retry x

/-- A good reply ends an exchange: the consecutive failures become 0 but for a PROBE (R35, R45). -/
def State.endGood (s : State) (x : Exchange) : State :=
  (if x.origin = .probe then s else s.updLane x.dock fun y => { y with failures := 0 }).freeLine

/-- A dock recovers at the first good PROBE reply (R48). -/
def State.recoverDock (s : State) (d : DockNo) : State :=
  (s.updDock d Dock.recovered).updLane d fun x =>
    { x with failures := 0, window := 0, windowEnd := none, lastSeq := none, probeAt := none }

/-- A good reply with a status goes to the origin of its command (R35). -/
def State.statusReply (s : State) (x : Exchange) (st : PostStatus) : State := match x.cmd with
  | .query => s
  | .unlock w => s.unlockReply x.dock w st
  | .lock => s.lockReply x.dock st
  | .stamp _ => s.stampReply x.dock st
  | .clear => s.clearReply x.dock st
  | .mark _ => s
  | .clearMark => s
  | .display _ => s
  | .probe => s.recoverDock x.dock

/-! ## News -/

/-- A round ends: the line is free, and the call wire stands as it is heard (R36, R37). -/
def State.endRound (s : State) (call : Bool) : State := (s.hear call).freeLine

/-- A good news frame is acknowledged (R37). DESIGN CHOICE: assumption 15. -/
def State.acknowledge (s : State) (winner : Nat) (seq : Bool) : State :=
  { s with line := { s.line with ack := newsAckFrame s.settings winner seq } }

/-- News of a LOST dock's post has its PROBE issued at once, unless one is pending or in flight (R38).
DESIGN CHOICE: assumption 36. -/
def State.hurryProbe (s : State) (d : DockNo) : State :=
  if ((s.lane d).slot.any fun c => c.origin == .probe) || s.line.busyWith d then s
  else s.updLane d fun x => { x with probeAt := some s.uptime }

/-- A good news item of a dock that is not a repeat is routed (R37, R38). -/
def State.routeNews (s : State) (d : DockNo) (seq : Bool) (take : State → DockNo → State) : State :=
  if (s.lane d).lastSeq = some seq then s
  else
    let t := s.updLane d fun x => { x with lastSeq := some seq }
    if (s.dock d).link = .lost then t.hurryProbe d else take t d

/-- A good news frame of a round's winner (R37, R38). -/
def State.goodNewsFrame (s : State) (winner : Nat) (n : NewsHead) (take : State → DockNo → State) : State :=
  let t := (s.endRound n.call).acknowledge winner n.seq
  match dockAtAddress s winner with
  | none => t
  | some d => t.routeNews d n.seq take

/-- A bad news frame, or none, from a round's winner (R39, R44, R46). -/
def State.badNews (s : State) (winner : Nat) (call : Bool) : State :=
  let t := s.endRound call
  match dockAtAddress s winner with
  | none => t
  | some d =>
    let u := t.countError d
    if windowFull u d then u.dropDock d else u

/-- FAULT_KEY news: a code outside 1-9 is discarded (R38). -/
def State.keyItem (s : State) (d : DockNo) (code : Nat) : State :=
  if 1 ≤ code ∧ code ≤ 9 then s.keyNews d code else s

/-! ## Map writes (R54) -/

/-- The line controller forgets a dock: its lane as at a start, out of the queue, and an outcome in flight discarded (R47,
R54). -/
def Line.forget (l : Line) (d : DockNo) : Line :=
  { l.updLane d fun _ => Lane.start with
    queue := l.queue.filter fun e => e != d
    arbiter := match l.arbiter with
      | .exchange x => .exchange (if x.dock = d then { x with discard := true } else x)
      | .free => .free
      | .round w => .round w }

end Sys2Proof.Machine
end

