-- ==== Sys2Proof/Machine/Conclude.lean ====
section
/-! DEFINITION. The end of a step: what follows in every step that touches docks, manifests, the journal, the faults or the
line, in one order (R3, R27, R29, R40, R42, R50, R97, R109, R119, R120, R131, R144). -/

namespace Sys2Proof.Machine

/-- The holds at the end of a step: those that no longer fit are dropped (R120), closes are offered (R131), and the refill
pass runs (R119). -/
def State.settleHolds (s : State) : State :=
  let t := (s.withHolding (testHolds s.holding)).offerCloses
  t.withHolding (refillPass t.holding)

/-- The work of the custody unit and the line controller at the end of a step (R3, R27, R40, R42, R50). -/
def State.runLine (s : State) : State :=
  let w := lineWork s.settings s.map ⟨s.docks, s.line⟩
  { s with docks := w.docks, line := w.line }

/-- The journal numbering at the end of a step (R97). -/
def State.renumber (s : State) : State := { s with journal := s.journal.renumber }

/-- The flags and notices of a step: the dock change flags (R29), and the conditions that hold at its end and did not at its
start (R109, R144). -/
def State.raiseFlags (s before : State) : State :=
  (s.flagDocks before.docks).riseNotices (journalHigh before) (journalFull before) (faultBacklog before)

/-- The end of a step that began in the state `before` and whose own effect led to `s`. DESIGN CHOICE: assumption 11. -/
def conclude (before s : State) : State := s.settleHolds.runLine.renumber.raiseFlags before

/-- A block's answer to a request whose step has an end of this kind, the reply made before it. -/
def concluding (f : State → Taken) (s : State) : Taken :=
  let r := f s
  (conclude s r.1, r.2)

/-- The same, with the reply made from the state at the end of the step. -/
def concludedAnswer (f : State → State) (reply : State → Answer) (s : State) : Taken :=
  let t := conclude s (f s)
  (t, some (reply t))

end Sys2Proof.Machine
end

