-- ==== Sys2Proof/Machine/FaultRows.lean ====
section
/-! DEFINITION. The fault requests (R139, R140, R145 to R150). -/

namespace Sys2Proof.Machine

/-! ## FAULT_REPORT -/

/-- The dock a report names: 0 names none (R139). -/
def reportDock (dock : Byte) : Option DockNo := dockOfByte dock

/-- The bike number the record of a report's dock holds, if it names a dock that holds one (R139). -/
def reportBike (s : State) (d : Option DockNo) : Option Nat := d.bind fun e => (s.dock e).bike

/-- The staff serial of the ACTIVE manifest (R139, R149). -/
def activeStaff (s : State) : Option Serial := (activeSlot s).bind fun m => (s.manifests.get m).bind Manifest.staff

/-- A report as FAULT_REPORT makes it (R139). -/
def requestReport (p : PortId) (dock code present : Byte) (card : Serial) (s : State) : Report :=
  let d := reportDock dock
  { source := if p = .service then .crew else .kiosk, code := code.toNat, dock := d, bike := reportBike s d
    reporter := if p = .service then activeStaff s else if present = 1 then some card else none }

/-- Restarts the ACTIVE manifest's idle deadline for a crew request that is taken (R128). -/
def State.touchCrew (s : State) : State := match activeSlot s with
  | some m => s.restartIdle m
  | none => s

/-- Check 1 of R139. -/
def reportAllowed (p : PortId) (dock code : Byte) : Bool :=
  dock.toNat ≤ 64 && (if p = .service then code == 13 else 1 ≤ code.toNat && code.toNat ≤ 9)

/-- The report is taken (R139). -/
def reportTaken (p : PortId) (r : Report) (s : State) : Taken :=
  let a := s.judgeReport r
  answerWith (if p = .service then a.1.touchCrew else a.1) .ok (admissionBytes a.2.1 a.2.2.1 a.2.2.2)

/-- FAULT_REPORT at the fault unit (R139). -/
def takeReportRequest (p : PortId) (dock code present : Byte) (card : Serial) (s : State) : Taken :=
  if !reportAllowed p dock code then replyStatus s .badRequest
  else if p = .service ∧ (activeSlot s).isNone then replyStatus s .notFound
  else if (reportDock dock).any fun d => !(s.dock d).mapped then refuseFor s .unmapped
  else concluding (reportTaken p (requestReport p dock code present card s)) s

/-- FAULT_REPORT (R139): on the service port the card fields are ignored (R190). DEDUCED: assumption 33. -/
def execFaultReport (f : LongFrame) (dock code present : Byte) (card : Serial) (s : State) :
    Host.Outcome State Fault Refusal :=
  whileRunning (s.select f.link.port) (serveLong f (Instr.faultReport f dock code present card).layout
    (f.link.port == .service || isBit present) onKioskOrService
    (takeReportRequest f.link.port dock code present card))

/-! ## Reading, acknowledging and dropping -/

/-- FAULT_READ at the fault unit: up to 4 of the oldest OPEN records (R145). -/
def takeFaultRead (s : State) : Taken :=
  let rs := (s.faults.queue.filter fun r => !r.sent).take 4
  answerWith s .ok (faultSummary s ++ [oneByte rs.length] ++ rs.flatMap faultBytes)

/-- FAULT_READ (R145). -/
def execFaultRead (k : Link) (params : BitVec 16) (s : State) : Host.Outcome State Fault Refusal :=
  whileRunning (s.select k.port) (serveShort k kindFaultRead params (params == 0) onBackhaul takeFaultRead)

/-- The counts of a FAULT_ACK (R146). -/
structure AckCounts where
  acknowledged : Nat
  changed      : Nat
  unknown      : Nat
deriving DecidableEq, Repr

/-- One entry of a FAULT_ACK (R146). -/
def ackEntry (x : List FaultRecord × AckCounts) (e : AckWords) : List FaultRecord × AckCounts :=
  match x.1.find? fun r => r.number == e.number.toNat with
  | none => (x.1, { x.2 with unknown := x.2.unknown + 1 })
  | some r =>
    if r.sent then (x.1, { x.2 with acknowledged := x.2.acknowledged + 1 })
    else if r.repeats = e.repeats.toNat then
      (x.1.map fun q => if q.number = r.number then { q with sent := true } else q,
        { x.2 with acknowledged := x.2.acknowledged + 1 })
    else if e.repeats.toNat < r.repeats then (x.1, { x.2 with changed := x.2.changed + 1 })
    else (x.1, { x.2 with unknown := x.2.unknown + 1 })

/-- Whether a FAULT_ACK list is allowed: 1 to 16 entries, each with repeats 1-15 (R146). -/
def ackAllowed (es : List AckWords) : Bool :=
  1 ≤ es.length && es.length ≤ 16 && es.all fun e => 1 ≤ e.repeats.toNat && e.repeats.toNat ≤ 15

/-- FAULT_ACK at the fault unit (R146). -/
def takeFaultAck (discarded : Byte) (es : List AckWords) (s : State) : Taken :=
  if ackAllowed es then
    let r := es.foldl ackEntry (s.faults.queue, ⟨0, 0, 0⟩)
    let t := { s with faults := { s.faults with queue := r.1, discarded := s.faults.discarded - discarded.toNat } }
    answerWith t .ok
      ([oneByte r.2.acknowledged, oneByte r.2.changed, oneByte r.2.unknown] ++ faultSummary t)
  else replyStatus s .badRequest

/-- FAULT_ACK (R146). -/
def execFaultAck (f : LongFrame) (discarded : Byte) (entries : List AckWords) (s : State) :
    Host.Outcome State Fault Refusal :=
  whileRunning (s.select f.link.port) (serveLong f (Instr.faultAck f discarded entries).layout true onBackhaul
    (takeFaultAck discarded entries))

/-- FAULT_DROP at the fault unit (R147). -/
def takeFaultDrop (n : Nat) (s : State) : Taken :=
  if s.faults.queue.any fun r => r.number == n then
    let t := { s with faults := { s.faults with queue := s.faults.queue.filter fun r => r.number != n } }
    answerWith t .ok (faultSummary t)
  else replyStatus s .notFound

/-- FAULT_DROP (R147). -/
def execFaultDrop (k : Link) (number : BitVec 16) (s : State) : Host.Outcome State Fault Refusal :=
  whileRunning (s.select k.port) (serveShort k kindFaultDrop number true onBackhaul (takeFaultDrop number.toNat))

/-- POLICY_SET at the fault unit (R140). -/
def takePolicySet (code policy : Byte) (s : State) : Taken :=
  if policyWritable code.toNat then
    let t := { s with
      faults := s.faults.setPolicy code.toNat (if policy = 1 then Policy.quarantine else Policy.reportOnly) }
    answerWith t .ok (faultSummary t)
  else replyStatus s .badRequest

/-- POLICY_SET (R140). -/
def execPolicySet (k : Link) (code policy : Byte) (s : State) : Host.Outcome State Fault Refusal :=
  whileRunning (s.select k.port) (serveShort k kindPolicySet (paramsOf code policy) (isBit policy) onBackhaul
    (takePolicySet code policy))

/-! ## Marking, clearing and resetting -/

/-- Whether an expected bike number accepts the one a record holds (R148, R149). -/
def bikeExpected (k : Dock) (expected : BitVec 24) : Bool :=
  k.bike.any fun n => expected == 0 || n == expected.toNat

/-- The codes SET may carry (R148). -/
def markCode (code : Byte) : Bool :=
  (1 ≤ code.toNat && code.toNat ≤ 9) || (11 ≤ code.toNat && code.toNat ≤ 13)

/-- A mark or a clearing is sent for a dock, and the report that goes with it is admitted (R148, R149).
DEDUCED: assumption 31. -/
def markAndReport (d : DockNo) (m : Marking) (r : Report) (s : State) : Taken :=
  let a := (s.applyMark d m).takeReport r
  answerWith a.1 .ok (admissionBytes a.2.1 a.2.2 (m != .clear))

/-- Checks 2 to 4 of R148 for a dock. -/
def takeMarking (d : DockNo) (expected : BitVec 24) (m : Marking) (r : Report) (s : State) : Taken :=
  if !(s.dock d).mapped then refuseFor s .unmapped
  else if !bikeExpected (s.dock d) expected then replyStatus s .notFound
  else concluding (markAndReport d m r) s

/-- BIKE_MARK SET at the fault unit (R148). -/
def takeMarkSet (dock code : Byte) (expected : BitVec 24) (s : State) : Taken := match dockOfByte dock with
  | none => replyStatus s .badRequest
  | some d =>
    if !markCode code then replyStatus s .badRequest
    else takeMarking d expected (.mark code.toNat)
      { source := .central, code := code.toNat, dock := some d, bike := (s.dock d).bike, reporter := none } s

/-- BIKE_MARK with operation SET (R148). -/
def execBikeMarkSet (f : LongFrame) (dock code : Byte) (expected : BitVec 24) (s : State) :
    Host.Outcome State Fault Refusal :=
  whileRunning (s.select f.link.port) (serveLong f (Instr.bikeMarkSet f dock code expected).layout true onBackhaul
    (takeMarkSet dock code expected))

/-- BIKE_MARK CLEAR at the fault unit (R148). -/
def takeMarkClear (dock : Byte) (expected : BitVec 24) (s : State) : Taken := match dockOfByte dock with
  | none => replyStatus s .badRequest
  | some d =>
    takeMarking d expected .clear
      { source := .central, code := 14, dock := some d, bike := (s.dock d).bike, reporter := none } s

/-- BIKE_MARK with operation CLEAR (R148). -/
def execBikeMarkClear (f : LongFrame) (dock code : Byte) (expected : BitVec 24) (s : State) :
    Host.Outcome State Fault Refusal :=
  whileRunning (s.select f.link.port) (serveLong f (Instr.bikeMarkClear f dock code expected).layout true onBackhaul
    (takeMarkClear dock expected))

/-- BIKE_CLEAR at the fault unit (R149). -/
def takeBikeClear (dock : Byte) (expected : BitVec 24) (s : State) : Taken := match dockOfByte dock with
  | none => replyStatus s .badRequest
  | some d =>
    if (activeSlot s).isNone then replyStatus s .notFound
    else if !(s.dock d).mapped then refuseFor s .unmapped
    else if !bikeExpected (s.dock d) expected then replyStatus s .notFound
    else concluding (markAndReport d .clear
      { source := .crew, code := 14, dock := some d, bike := (s.dock d).bike, reporter := activeStaff s }) s.touchCrew

/-- BIKE_CLEAR (R149). -/
def execBikeClear (f : LongFrame) (dock : Byte) (expected : BitVec 24) (s : State) :
    Host.Outcome State Fault Refusal :=
  whileRunning (s.select f.link.port) (serveLong f (Instr.bikeClear f dock expected).layout true onService
    (takeBikeClear dock expected))

/-- An accepted DOCK_RESET (R150). -/
def State.resetDock (s : State) (d : DockNo) : State :=
  (s.updLane d fun x => { x with errors := 0 }).updDock d fun k => if k.custody = .jammed then k.enterVerify else k

/-- The reply OK to a DOCK_RESET: the custody state at the end of the step (R150). -/
def resetAnswer (d : DockNo) (s : State) : Answer := { status := .ok, content := some [(s.dock d).custody.code] }

/-- DOCK_RESET at the custody unit (R150). -/
def takeDockReset (dock : Byte) (s : State) : Taken := match dockOfByte dock with
  | none => replyStatus s .badRequest
  | some d =>
    if !(s.dock d).mapped then refuseFor s .unmapped
    else if (s.dock d).link = .lost then refuseFor s .lost
    else concludedAnswer (fun t => t.resetDock d) (resetAnswer d) s

/-- DOCK_RESET (R150); its second parameter has no use and must be 0 (R189). -/
def execDockReset (k : Link) (dock second : Byte) (s : State) : Host.Outcome State Fault Refusal :=
  whileRunning (s.select k.port)
    (serveShort k kindDockReset (paramsOf dock second) (second == 0) onService (takeDockReset dock))

end Sys2Proof.Machine
end

