-- ==== Sys2Proof/Machine/JournalRows.lean ====
section
/-! DEFINITION. JOURNAL_READ and JOURNAL_TAKE (R107, R108). -/

namespace Sys2Proof.Machine

/-- The records held from a number onwards, up to 4; none where no record has the number (R107). -/
def recordsFrom (j : Journal) (n : Nat) : List JournalRecord :=
  (j.records.dropWhile fun r => r.number != n).take 4

/-- JOURNAL_READ at the journal (R107): every reply carries the summary, the count of records and the records, of which a
RANGE reply has none (10.5). DEDUCED: assumption 42. -/
def takeJournalRead (n : Nat) (s : State) : Taken :=
  let rs := recordsFrom s.journal n
  answerWith s (if rs.isEmpty then .range else .ok)
    (journalSummary s ++ [oneByte rs.length] ++ rs.flatMap journalBytes)

/-- JOURNAL_READ (R107). -/
def execJournalRead (f : LongFrame) (number : BitVec 32) (s : State) : Host.Outcome State Fault Refusal :=
  whileRunning (s.select f.link.port) (serveLong f (Instr.journalRead f number).layout true onKioskOrBackhaul
    (takeJournalRead number.toNat))

/-- Removes every record numbered `n` or less (R108). -/
def State.removeRecords (s : State) (n : Nat) : State :=
  { s with journal := { s.journal with records := s.journal.records.filter fun r => decide (n < r.number) } }

/-- The records go, the drain runs, and the reply carries the count removed and the summary as it stands after the drain
(R108). -/
def removeAndDrain (n : Nat) (s : State) : Taken :=
  let t := (s.removeRecords n).drain
  answerWith t .ok
    (leBytes 2 (s.journal.records.length - (s.removeRecords n).journal.records.length) ++ journalSummary t)

/-- JOURNAL_TAKE at the journal (R108). -/
def takeJournalTake (n : Nat) (s : State) : Taken :=
  if s.journal.records.any fun r => r.number == n then concluding (removeAndDrain n) s else replyStatus s .range

/-- JOURNAL_TAKE (R108). -/
def execJournalTake (f : LongFrame) (number : BitVec 32) (s : State) : Host.Outcome State Fault Refusal :=
  whileRunning (s.select f.link.port) (serveLong f (Instr.journalTake f number).layout true onBackhaul
    (takeJournalTake number.toNat))

end Sys2Proof.Machine
end

