-- ==== Sys2Proof/Machine/LineRows.lean ====
section
/-! DEFINITION. The events of the post line: the ends of exchanges (R35), call rounds and news (R36 to R39), and the timers of
docks (R12, R28, R44, R47, R49). -/

namespace Sys2Proof.Machine

/-! ## Replies -/

/-- A reply ends a try of the exchange in flight: good where it fits the command, else bad (R34, R35).  With no exchange in
flight its bytes are discarded.  The outcome of an exchange whose dock has changed is discarded (R47).
DESIGN CHOICE: assumption 12. -/
def replyStep (call : Bool) (fits : Exchange → Bool) (take : Exchange → State → State) (s : State) : State :=
  match s.line.inFlight with
  | none => s
  | some x =>
    let t := s.hear call
    conclude s (if !fits x then t.badTry x else if x.discard then t.freeLine else take x (t.endGood x))

/-- A reply with a status, to a command of one kind (R32, R34). -/
def statusStep (call : Bool) (kind : Cmd → Bool) (st : PostStatus) (s : State) : State :=
  replyStep call (fun x => kind x.cmd && x.cmd.allows st) (fun x t => t.statusReply x st) s

/-- A QUERY reply (R19, R51). -/
def queryStep (call : Bool) (b : StateBlock) (s : State) : State :=
  replyStep call (fun x => x.cmd == .query) (fun x t => t.queryReply x.dock (x.origin == .sweep) (readBlock b)) s

/-- The kinds of command a reply row stands for (R32), beside UNLOCK (`Cmd.isUnlock`): WRITE_TAG stamp. -/
def Cmd.isStamp : Cmd → Bool
  | .stamp _ => true
  | _ => false

/-- WRITE_TAG mark. -/
def Cmd.isMark : Cmd → Bool
  | .mark _ => true
  | _ => false

/-- SHOW. -/
def Cmd.isShow : Cmd → Bool
  | .display _ => true
  | _ => false

/-- End of a QUERY exchange (R19). -/
def execQuery (block : StateBlock) (call : Bool) (s : State) : Host.Outcome State Fault Refusal :=
  whileRunning s (queryStep call block)

/-- End of an UNLOCK exchange (R10). -/
def execUnlock (status : PostStatus) (call : Bool) (s : State) : Host.Outcome State Fault Refusal :=
  whileRunning s (statusStep call Cmd.isUnlock status)

/-- End of a LOCK exchange (R16). -/
def execLock (status : PostStatus) (call : Bool) (s : State) : Host.Outcome State Fault Refusal :=
  whileRunning s (statusStep call (fun c => c == .lock) status)

/-- End of a WRITE_TAG stamp exchange (R9). -/
def execWriteTagStamp (status : PostStatus) (call : Bool) (s : State) : Host.Outcome State Fault Refusal :=
  whileRunning s (statusStep call Cmd.isStamp status)

/-- End of a WRITE_TAG clear exchange (R20). -/
def execWriteTagClear (status : PostStatus) (call : Bool) (s : State) : Host.Outcome State Fault Refusal :=
  whileRunning s (statusStep call (fun c => c == .clear) status)

/-- End of a WRITE_TAG mark exchange: the record keeps its mark whatever the status (R22). -/
def execWriteTagMark (status : PostStatus) (call : Bool) (s : State) : Host.Outcome State Fault Refusal :=
  whileRunning s (statusStep call Cmd.isMark status)

/-- End of a WRITE_TAG clear-mark exchange (R22). -/
def execWriteTagClearMark (status : PostStatus) (call : Bool) (s : State) : Host.Outcome State Fault Refusal :=
  whileRunning s (statusStep call (fun c => c == .clearMark) status)

/-- End of a SHOW exchange (R42). -/
def execShow (status : PostStatus) (call : Bool) (s : State) : Host.Outcome State Fault Refusal :=
  whileRunning s (statusStep call Cmd.isShow status)

/-- End of a PROBE exchange at a LOST dock (R47, R48). -/
def execProbe (status : PostStatus) (call : Bool) (s : State) : Host.Outcome State Fault Refusal :=
  whileRunning s (statusStep call (fun c => c == .probe) status)

/-- The reply timeout of a try expires with no good reply (R35). -/
def execReplyTimeout (call : Bool) (s : State) : Host.Outcome State Fault Refusal :=
  whileRunning s (replyStep call (fun _ => false) fun _ t => t)

/-- A complete reply frame, judged by the checks of R34 (R35). DESIGN CHOICE: assumption 12. -/
def frameStep (call : Bool) (frame : List LineByte) (s : State) : State :=
  replyStep call (fun x => (goodReply s.settings x frame).isSome)
    (fun x t => match goodReply s.settings x frame with
      | some (.block b) => t.queryReply x.dock (x.origin == .sweep) (readBlock b)
      | some (.status st) => t.statusReply x st
      | none => t) s

/-- A complete reply frame that fails a check of R34 (R35). -/
def execBadReply (frame : List LineByte) (call : Bool) (s : State) : Host.Outcome State Fault Refusal :=
  whileRunning s (frameStep call frame)

/-! ## Rounds -/

/-- The call wire is asserted; a FREE line begins a round (R40). -/
def execCallWireAsserted (s : State) : Host.Outcome State Fault Refusal :=
  whileRunning s fun t => conclude t (t.hear true)

/-- The address of the winner of a round with a pointer and a rank (R36). -/
def winnerOf (pointer rank : Nat) : Nat := if 120 < pointer + rank then pointer + rank - 120 else pointer + rank

/-- The call pointer after a round's winner (R36). -/
def pointerAfter (winner : Nat) : Nat := if winner = 120 then 1 else winner + 1

/-- The seven arbitration slots end (R36). DESIGN CHOICE: assumption 13. -/
def arbitrate (rank : Nat) (call : Bool) (s : State) : State := match s.line.arbiter with
  | .round none =>
    if rank < 120 then
      let w := winnerOf s.line.pointer rank
      { s with line := { s.line with arbiter := .round (some w), pointer := pointerAfter w, call } }
    else conclude s (s.endRound call)
  | .round (some _) => s
  | .exchange _ => s
  | .free => s

/-- The seven arbitration slots end with a rank on the wire (R36). -/
def execCallRoundArbitration (rank : BitVec 7) (call : Bool) (s : State) : Host.Outcome State Fault Refusal :=
  whileRunning s (arbitrate rank.toNat call)

/-- The winner a round waits for (R36). -/
def awaited (l : Line) : Option Nat := match l.arbiter with
  | .round w => w
  | .exchange _ => none
  | .free => none

/-- Good news of a round's winner (R37, R38). DESIGN CHOICE: assumption 13. -/
def newsStep (n : NewsHead) (take : State → DockNo → State) (s : State) : State := match awaited s.line with
  | some w => conclude s (s.goodNewsFrame w n take)
  | none => s

/-- TAP news (R70). -/
def execTap (n : NewsHead) (serial : Serial) (s : State) : Host.Outcome State Fault Refusal :=
  whileRunning s (newsStep n fun t d => t.tapNews d serial)

/-- INSERT news (R15). -/
def execInsert (n : NewsHead) (block : StateBlock) (s : State) : Host.Outcome State Fault Refusal :=
  whileRunning s (newsStep n fun t d => t.insertNews d (insertTag block))

/-- REMOVED news (R18). -/
def execRemoved (n : NewsHead) (s : State) : Host.Outcome State Fault Refusal :=
  whileRunning s (newsStep n State.removedNews)

/-- FAULT_KEY news (R138). -/
def execFaultKey (n : NewsHead) (code : Byte) (s : State) : Host.Outcome State Fault Refusal :=
  whileRunning s (newsStep n fun t d => t.keyItem d code.toNat)

/-- JAM news (R23). -/
def execJam (n : NewsHead) (s : State) : Host.Outcome State Fault Refusal := whileRunning s (newsStep n State.jamDock)

/-- What each item of news does at its dock (R33, R38). -/
def State.newsItem (s : State) (d : DockNo) : News → State
  | .tap serial => s.tapNews d serial
  | .insert block => s.insertNews d (insertTag block)
  | .removed => s.removedNews d
  | .faultKey code => s.keyItem d code
  | .jam => s.jamDock d

/-- A news frame as received, judged by the checks of R37 (R39). DESIGN CHOICE: assumption 13. -/
def newsFrameStep (frame : List LineByte) (call : Bool) (s : State) : State := match awaited s.line with
  | none => s
  | some w => match goodNews s.settings w frame with
    | some (seq, item) => conclude s (s.goodNewsFrame w ⟨seq, call⟩ fun t d => t.newsItem d item)
    | none => conclude s (s.badNews w call)

/-- A news frame that fails a check of R37 (R39). -/
def execBadNewsFrame (frame : List LineByte) (call : Bool) (s : State) : Host.Outcome State Fault Refusal :=
  whileRunning s (newsFrameStep frame call)

/-- The winner sends no news frame within the reply timeout (R39). -/
def execNewsTimeout (call : Bool) (s : State) : Host.Outcome State Fault Refusal :=
  whileRunning s fun t => match awaited t.line with
    | some w => conclude t (t.badNews w call)
    | none => t

/-! ## Timers of docks -/

/-- Whether an uptime timer has been reached. DESIGN CHOICE: assumption 5. -/
def due (s : State) (t : Option Nat) : Bool := t.any fun u => decide (u ≤ s.uptime)

/-- Whether the deadline of an OPEN release at an answering post has been reached (R12, R24). -/
def releaseDue (s : State) (d : DockNo) : Bool :=
  (s.dock d).online && (s.dock d).release.any fun r => r.phase == .opened && due s r.deadline

/-- The deadline of an OPEN release is reached: RELOCKING, and LOCK (R12). -/
def execReleaseDeadline (d : DockNo) (s : State) : Host.Outcome State Fault Refusal :=
  whileRunning s fun t =>
    if releaseDue t d then conclude t ((t.updRelease d fun r => { r with phase := .relocking }).put d .lock) else t

/-- A refusal flash deadline is reached (R28). -/
def execFlashDeadline (d : DockNo) (s : State) : Host.Outcome State Fault Refusal :=
  whileRunning s fun t =>
    if due t (t.dock d).flash then conclude t (t.updDock d fun k => { k with flash := none }) else t

/-- A dock's drop window ends (R44). -/
def execDropWindowEnd (d : DockNo) (s : State) : Host.Outcome State Fault Refusal :=
  whileRunning s fun t =>
    if due t (t.lane d).windowEnd then t.updLane d fun x => { x with window := 0, windowEnd := none } else t

/-- Whether a PROBE can be issued for a LOST dock whose probe timer is reached (R47). -/
def probeDue (s : State) (d : DockNo) : Bool :=
  (s.dock d).link == .lost && due s (s.lane d).probeAt && s.line.idleAt d

/-- Issues PROBE into a dock's slot; its timer runs no more until the outcome (R47). DESIGN CHOICE: assumption 36. -/
def State.issueProbe (s : State) (d : DockNo) : State :=
  { s with line := (s.line.updLane d fun x => { x with probeAt := none }).issue d .probe .probe }

/-- A LOST dock's probe timer is reached (R47). -/
def execProbeTimer (d : DockNo) (s : State) : Host.Outcome State Fault Refusal :=
  whileRunning s fun t => if probeDue t d then conclude t (t.issueProbe d) else t

/-- A sweep start: the timer restarts, and a walk begins at dock 1 unless one is in progress (R49).
DESIGN CHOICE: assumption 10. -/
def State.startSweep (s : State) : State :=
  { s with
    line := { s.line with
      sweepDue := s.uptime + s.settings.sweepPeriod
      sweepAt := match s.line.sweepAt with
        | some p => some p
        | none => some 1 } }

/-- The sweep timer expires (R49). -/
def execSweepTimer (s : State) : Host.Outcome State Fault Refusal :=
  whileRunning s fun t => if t.line.sweepDue ≤ t.uptime then conclude t t.startSweep else t

end Sys2Proof.Machine
end

