-- ==== Sys2Proof/Machine/Cards.lean ====
section
/-! DEFINITION. The card requests and the expiry of a guest pass (R61 to R69), and the requests for a rental (R75, R76). -/

namespace Sys2Proof.Machine

/-! ## CARD_PUT -/

/-- The balance of a request as clamped (R61). -/
def clampBalance (v : BitVec 32) : Int := clampInt minBalance maxBalance v.toInt

/-- The body CARD_PUT gives a new entry; absent where check 1 of R61 refuses it.  A kind, plan or member number outside
its range refuses; a member number above 16,777,215 does not fit its field. -/
def putBody (r : CardPut) : Option CardBody :=
  if r.member = 0 then none
  else if r.kind = 0 then (planOf r.plan).map fun p => .member r.member.toNat p (clampBalance r.balance) none
  else if r.kind = 2 then some (.staff r.member.toNat)
  else none

/-- The body of an entry updated by CARD_PUT: a MEMBER that stays one keeps its balance and last charge (R62). -/
def updateBody : CardBody → CardBody → CardBody
  | .member _ _ b l, .member n p _ _ => .member n p b l
  | .member _ _ _ _, .guest n p d l => .guest n p d l
  | .member _ _ _ _, .staff n => .staff n
  | .guest _ _ _ _, new => new
  | .staff _, new => new

/-- Whether a body is a MEMBER's. -/
def CardBody.isMember : CardBody → Bool
  | .member _ _ _ _ => true
  | .guest _ _ _ _ => false
  | .staff _ => false

/-- Whether the balance of the request was used and clamped (R61, R62). -/
def putClamped (r : CardPut) (old : Option CardBody) (new : CardBody) : Bool :=
  new.isMember && !(old.any CardBody.isMember) && clampBalance r.balance != r.balance.toInt

/-- OK, or CLAMPED where a value was clamped or saturated. -/
def okOr (clamped : Bool) : Status := if clamped then .clamped else .ok

/-- CARD_PUT at the card store (R61, R62). -/
def takeCardPut (r : CardPut) (s : State) : Taken :=
  match putBody r, cardStatusOf r.status with
  | some body, some status =>
    let expiry := if r.expiryPresent = 1 then some r.expiry.toNat else none
    match findCard s r.serial with
    | some c =>
      if c.isGuest then replyStatus s .duplicate
      else replyStatus (s.putCard { c with body := updateBody c.body body, status, expiry })
        (okOr (putClamped r (some c.body) body))
    | none =>
      if cardCapacity ≤ s.cards.length then replyStatus s .tableFull
      else replyStatus (s.putCard { serial := r.serial, body, status, trips := 0, expiry, lastUse := none })
        (okOr (putClamped r none body))
  | _, _ => replyStatus s .badRequest

/-- CARD_PUT (R61, R62). -/
def execCardPut (f : LongFrame) (r : CardPut) (s : State) : Host.Outcome State Fault Refusal :=
  whileRunning (s.select f.link.port) (serveLong f (Instr.cardPut f r).layout
    (isCardKind r.kind && (cardStatusOf r.status).isSome && isBit r.expiryPresent) onBackhaul (takeCardPut r))

/-! ## CARD_CREDIT, CARD_STATUS, CARD_TRIPS, CARD_DROP -/

/-- A balance or deposit after a delta, saturated at its limits, with the body that holds it; absent for STAFF (R63). -/
def creditBody (b : CardBody) (delta : Int) : Option (Int × Bool × CardBody) := match b with
  | .member n p bal l =>
    let v := clampInt minBalance maxBalance (bal + delta)
    some (v, v != bal + delta, .member n p v l)
  | .guest n p dep l =>
    let v := clampInt 0 maxDeposit (dep + delta)
    some (v, v != dep + delta, .guest n p v l)
  | .staff _ => none

/-- CARD_CREDIT at the card store (R63). -/
def takeCardCredit (serial : Serial) (delta : BitVec 32) (s : State) : Taken := match findCard s serial with
  | none => replyStatus s .notFound
  | some c => match creditBody c.body delta.toInt with
    | none => replyStatus s .badRequest
    | some (v, clamped, body) => answerWith (s.putCard { c with body }) (okOr clamped) (signedBytes v)

/-- CARD_CREDIT (R63). -/
def execCardCredit (f : LongFrame) (serial : Serial) (delta : BitVec 32) (s : State) :
    Host.Outcome State Fault Refusal :=
  whileRunning (s.select f.link.port)
    (serveLong f (Instr.cardCredit f serial delta).layout true onBackhaul (takeCardCredit serial delta))

/-- CARD_STATUS at the card store (R64). -/
def takeCardStatus (serial : Serial) (status : Byte) (s : State) : Taken :=
  match cardStatusOf status, findCard s serial with
  | some st, some c => replyStatus (s.putCard { c with status := st }) .ok
  | some _, none => replyStatus s .notFound
  | none, _ => replyStatus s .badRequest

/-- CARD_STATUS (R64). -/
def execCardStatus (f : LongFrame) (serial : Serial) (status : Byte) (s : State) :
    Host.Outcome State Fault Refusal :=
  whileRunning (s.select f.link.port)
    (serveLong f (Instr.cardStatus f serial status).layout (cardStatusOf status).isSome onBackhaul
    (takeCardStatus serial status))

/-- CARD_TRIPS at the card store (R65, R69). -/
def takeCardTrips (serial : Serial) (count : Byte) (s : State) : Taken := match findCard s serial with
  | none => replyStatus s .notFound
  | some c => replyStatus (s.storeTrips { c with trips := min 7 count.toNat }) (okOr (decide (7 < count.toNat)))

/-- CARD_TRIPS (R65). -/
def execCardTrips (f : LongFrame) (serial : Serial) (count : Byte) (s : State) : Host.Outcome State Fault Refusal :=
  whileRunning (s.select f.link.port)
    (serveLong f (Instr.cardTrips f serial count).layout true onBackhaul (takeCardTrips serial count))

/-- CARD_DROP at the card store (R66). -/
def takeCardDrop (serial : Serial) (s : State) : Taken := match findCard s serial with
  | none => replyStatus s .notFound
  | some _ => replyStatus (s.dropCard serial) .ok

/-- CARD_DROP (R66). -/
def execCardDrop (f : LongFrame) (serial : Serial) (s : State) : Host.Outcome State Fault Refusal :=
  whileRunning (s.select f.link.port)
    (serveLong f (Instr.cardDrop f serial).layout true onBackhaul (takeCardDrop serial))

/-! ## CARD_QUERY -/

/-- CARD_QUERY by serial (R67). -/
def takeCardQuery (serial : Serial) (s : State) : Taken := match findCard s serial with
  | none => replyStatus s .notFound
  | some c => answerWith s .ok (cardBytes s c)

/-- CARD_QUERY, long form (R67). -/
def execCardQuery (f : LongFrame) (serial : Serial) (s : State) : Host.Outcome State Fault Refusal :=
  whileRunning (s.select f.link.port)
    (serveLong f (Instr.cardQuery f serial).layout true onKioskOrBackhaul (takeCardQuery serial))

/-- CARD_QUERY by position (R189). -/
def takeCardAt (position : Nat) (s : State) : Taken := match s.cards[position]? with
  | none => replyStatus s .range
  | some c => answerWith s .ok (cardBytes s c)

/-- CARD_QUERY, short form (R189). -/
def execCardQueryShortForm (k : Link) (position : BitVec 16) (s : State) : Host.Outcome State Fault Refusal :=
  whileRunning (s.select k.port)
    (serveShort k kindCardQueryShort position true onKioskOrBackhaul (takeCardAt position.toNat))

/-! ## GUEST_ISSUE and guest expiry -/

/-- The expiry of a pass issued now (R68). -/
def guestExpiryTime (t minutes : Nat) : Nat := min max32 (t + 60 * minutes)

/-- GUEST_ISSUE at the card store (R59, R68). -/
def takeGuestIssue (serial : Serial) (plan : Byte) (deposit : BitVec 32) (validity : BitVec 16) (s : State) : Taken :=
  match planOf plan with
  | none => replyStatus s .badRequest
  | some p =>
    if validity.toNat < 1 ∨ 1440 < validity.toNat then replyStatus s .badRequest
    else match s.clock with
      | none => replyStatus s .notCommissioned
      | some t =>
        if (findCard s serial).isSome then replyStatus s .duplicate
        else if cardCapacity ≤ s.cards.length then replyStatus s .tableFull
        else
          let n := guestNumber s
          let v := clampInt 0 maxDeposit deposit.toInt
          let e := guestExpiryTime t validity.toNat
          let c : Card :=
            { serial, body := .guest n p v none, status := .active, trips := 0, expiry := some e, lastUse := none }
          answerWith ({ s with nextGuest := nextNumber n }.putCard c) (okOr (v != deposit.toInt))
            (leBytes 2 n ++ leBytes 4 e)

/-- GUEST_ISSUE (R68). -/
def execGuestIssue (f : LongFrame) (serial : Serial) (plan : Byte) (deposit : BitVec 32) (validity : BitVec 16)
    (s : State) : Host.Outcome State Fault Refusal :=
  whileRunning (s.select f.link.port)
    (serveLong f (Instr.guestIssue f serial plan deposit validity).layout true onKiosk
    (takeGuestIssue serial plan deposit validity))

/-- The expiry test of one entry: a GUEST whose expiry has been reached with no trip out is removed (R69). -/
def State.testExpiry (s : State) (c : Card) : State :=
  if c.isGuest && cardExpired s c && c.trips == 0 then s.dropCard c.serial else s

/-- The expiry test of every entry (R69, R176, R187). -/
def State.testExpiries (s : State) : State := s.cards.foldl State.testExpiry s

/-- Station time reaches a GUEST entry's expiry (R69). -/
def execGuestExpiry (serial : Serial) (s : State) : Host.Outcome State Fault Refusal :=
  whileRunning s fun t => match findCard t serial with
    | some c => t.testExpiry c
    | none => t

/-! ## Requests for a rental -/

/-- The side a port asks a rental from (R8). -/
def sideOf (k : Link) : Side := match k.port with
  | .kiosk => .kiosk k.tag
  | .backhaul => .backhaul k.tag
  | .service => .post

/-- A request for a rental at its block: a refusal at once, or a grant whose reply follows the release (R74, R75, R76). -/
def takeRental (serial : Serial) (dock : Option DockNo) (side : Side) (s : State) : Taken :=
  match decideRental s serial dock with
  | .refused st r => (s, some (plainAnswer st r))
  | .staff _ => replyStatus s .denied
  | .granted d c plan => (conclude s (s.grantRental d c plan side), none)

/-- RELEASE_DOCK (R75): a dock number outside 1-64 is refused by the port unit (R25, R159). -/
def execReleaseDock (f : LongFrame) (serial : Serial) (dock : Byte) (s : State) : Host.Outcome State Fault Refusal :=
  whileRunning (s.select f.link.port)
    (serveLong f (Instr.releaseDock f serial dock).layout (dockOfByte dock).isSome onKioskOrBackhaul
    (takeRental serial (dockOfByte dock) (sideOf f.link)))

/-- RELEASE_ANY (R76). -/
def execReleaseAny (f : LongFrame) (serial : Serial) (s : State) : Host.Outcome State Fault Refusal :=
  whileRunning (s.select f.link.port) (serveLong f (Instr.releaseAny f serial).layout true onKiosk
    (takeRental serial none (sideOf f.link)))

end Sys2Proof.Machine
end

