-- ==== Sys2Proof/Machine/Tariffs.lean ====
section
/-! DEFINITION. TARIFF_PUT and the write of a tariff record (R80, R81). -/

namespace Sys2Proof.Machine

/-- The range of each tariff field, in the order of R80. -/
def tariffRanges : List (Int × Int) :=
  [(0, 240), (1, 120), (0, 5000), (0, 100000), (1, 7), (-100000, 100000), (0, 1000)]

/-- The seven values a request carries, in the order of R80. -/
def tariffValues (v : TariffWords) : List Int :=
  [v.free.toInt, v.block.toInt, v.price.toInt, v.cap.toInt, v.limit.toInt, v.minFunds.toInt, v.credit.toInt]

/-- The record a tariff write stores: each value clamped to its range (R81). -/
def tariffOf (v : TariffWords) : Tariff :=
  { free := (clampInt 0 240 v.free.toInt).toNat, block := (clampInt 1 120 v.block.toInt).toNat
    price := (clampInt 0 5000 v.price.toInt).toNat, cap := (clampInt 0 100000 v.cap.toInt).toNat
    limit := (clampInt 1 7 v.limit.toInt).toNat, minFunds := clampInt (-100000) 100000 v.minFunds.toInt
    credit := (clampInt 0 1000 v.credit.toInt).toNat }

/-- Whether some value lies outside its range (R81). -/
def tariffClamped (v : TariffWords) : Bool :=
  !(((tariffValues v).zip tariffRanges).all fun p => inRange p.2.1 p.2.2 p.1)

/-- Writes one whole tariff record and replies with the record as stored (R81). -/
def writeTariff (p : Fin 8) (v : TariffWords) (s : State) : Taken :=
  answerWith { s with tariffs := s.tariffs.set p.val (tariffOf v) p.isLt } (okOr (tariffClamped v))
    (tariffBytes (tariffOf v))

/-- TARIFF_PUT at the card store (R81). -/
def takeTariffPut (plan : Byte) (v : TariffWords) (s : State) : Taken := match planOf plan with
  | none => replyStatus s .badRequest
  | some p => writeTariff p v s

/-- TARIFF_PUT (R81). -/
def execTariffPut (f : LongFrame) (plan : Byte) (v : TariffWords) (s : State) : Host.Outcome State Fault Refusal :=
  whileRunning (s.select f.link.port)
    (serveLong f (Instr.tariffPut f plan v).layout true onBackhaul (takeTariffPut plan v))

end Sys2Proof.Machine
end

