-- ==== Sys2Proof/Machine/MapRows.lean ====
section
/-! DEFINITION. MAP_PUT and what a map write does (R2, R53, R54), and the cursor requests (R165 to R167). -/

namespace Sys2Proof.Machine

/-! ## Map writes -/

/-- The address of a valid entry as a request names it: 1-120 for a valid one, none for an invalid one; absent where check 1
of R53 refuses it. -/
def entryOf (valid address : Byte) : Option (Option Nat) :=
  if valid = 1 then (if 1 ≤ address.toNat ∧ address.toNat ≤ 120 then some (some address.toNat) else none)
  else some none

/-- Whether a dock's slot holds a pending command or an exchange for it is in flight (R53). -/
def lineBusy (s : State) (d : DockNo) : Bool := !s.line.idleAt d

/-- Check 3 of R53. -/
def mapBusy (s : State) (d : DockNo) : Bool :=
  (s.map.get d).isSome && (s.dock d).link != .lost && ((s.dock d).custody != .empty || lineBusy s d)

/-- Check 4 of R53: another dock's valid entry holds the address. -/
def addressTaken (s : State) (d : DockNo) (e : Option Nat) : Bool :=
  e.isSome && allDocks.any fun c => c != d && s.map.get c == e

/-- Stores an entry, the line controller's state for the dock as at a start (R54). -/
def State.storeEntry (s : State) (d : DockNo) (e : Option Nat) : State :=
  { s with map := s.map.set d.val e d.isLt, line := s.line.forget d }

/-- The record of a dock whose entry has become valid (R2, R4). -/
def Dock.validated (k : Dock) : Dock := { k with mapped := true, link := LinkState.online }.enterVerify

/-- A map write that takes effect: a valid entry is first invalidated, which ends and clears the record, and a valid write
then puts the dock in VERIFY (R2, R54). -/
def State.writeMap (s : State) (d : DockNo) (e : Option Nat) : State :=
  let t := (if (s.map.get d).isSome then s.clearDock d else s).storeEntry d e
  if e.isSome then t.updDock d Dock.validated else t

/-- What a map write is answered with, and whether it was taken (R53).  The reply OK carries the entry as stored.
DEDUCED: assumption 31. -/
def takeMapWrite (d : DockNo) (valid address : Byte) (s : State) : Taken × Bool :=
  match entryOf valid address with
  | none => (replyStatus s .badRequest, false)
  | some e =>
    if s.map.get d = e then (answerWith s .ok (mapBytes e), true)
    else if mapBusy s d then (replyStatus s .dockBusy, false)
    else if addressTaken s d e then (replyStatus s .duplicate, false)
    else (answerWith (conclude s (s.writeMap d e)) .ok (mapBytes e), true)

/-- MAP_PUT at the line controller (R53). -/
def takeMapPut (dock valid address : Byte) (s : State) : Taken := match dockOfByte dock with
  | none => replyStatus s .badRequest
  | some d => (takeMapWrite d valid address s).1

/-- MAP_PUT (R53). -/
def execMapPut (f : LongFrame) (dock valid address : Byte) (s : State) : Host.Outcome State Fault Refusal :=
  whileRunning (s.select f.link.port)
    (serveLong f (Instr.mapPut f dock valid address).layout (isBit valid) onBackhaulOrService
    (takeMapPut dock valid address))

/-! ## Cursors -/

/-- The table a code names (R189). -/
def cursorTableOf (c : BitVec 2) : CursorTable :=
  if c = 0 then .docks else if c = 1 then .map else if c = 2 then .tariffs else .cards

/-- The step mode a code names; code 3 names none (R189). -/
def stepModeOf (c : BitVec 2) : Option StepMode :=
  if c = 0 then some .none else if c = 1 then some .onReadAndWrite else if c = 2 then some .onWriteOnly else none

/-- How many indexes CURSOR_SET accepts for a table (R165). -/
def CursorTable.indexes : CursorTable → Nat
  | .docks => 64
  | .map => 64
  | .tariffs => 8
  | .cards => 512

/-- CURSOR_SET at the port (R165). -/
def takeCursorSet (p : PortId) (index : BitVec 9) (table mode : BitVec 2) (s : State) : Taken :=
  match stepModeOf mode with
  | none => replyStatus s .badRequest
  | some m =>
    if index.toNat < (cursorTableOf table).indexes then
      replyStatus (s.updPort p fun q => { q with cursor := ⟨cursorTableOf table, index.toNat, m⟩ }) .ok
    else replyStatus s .badRequest

/-- The parameters of CURSOR_SET (R189). -/
def cursorParams (index : BitVec 9) (table mode : BitVec 2) (rest : BitVec 3) : BitVec 16 :=
  rest ++ mode ++ table ++ index

/-- CURSOR_SET (R165); bits 13-15 of its parameters must be 0 (R189). -/
def execCursorSet (k : Link) (index : BitVec 9) (table mode : BitVec 2) (rest : BitVec 3) (s : State) :
    Host.Outcome State Fault Refusal :=
  whileRunning (s.select k.port)
    (serveShort k kindCursorSet (cursorParams index table mode rest) (rest == 0) onAnyPort
    (takeCursorSet k.port index table mode))

/-- The plan a cursor index stands for (R82). -/
def planAt (i : Nat) : Option (Fin 8) := if h : i < 8 then some ⟨i, h⟩ else none

/-- The entry at a cursor, none at or past the table's end (R166). -/
def entryBytes (s : State) (c : Cursor) : Option (List Byte) := match c.table with
  | .docks => (dockNamed (c.index + 1)).map (dockBytes s)
  | .map => (dockNamed (c.index + 1)).map fun d => mapBytes (s.map.get d)
  | .tariffs => (planAt c.index).map fun p => tariffBytes (s.tariffs.get p)
  | .cards => (s.cards[c.index]?).map (cardBytes s)

/-- Steps a port's cursor up by 1 (R166, R167). -/
def State.stepCursor (s : State) (p : PortId) : State :=
  s.updPort p fun q => { q with cursor := { q.cursor with index := q.cursor.index + 1 } }

/-- CURSOR_READ at the owning block (R166). -/
def takeCursorRead (p : PortId) (s : State) : Taken :=
  let c := (s.port p).cursor
  match entryBytes s c with
  | none => answerWith s .range (leBytes 2 c.index)
  | some bytes =>
    answerWith (if c.mode = .onReadAndWrite then s.stepCursor p else s) .ok (leBytes 2 c.index ++ bytes)

/-- CURSOR_READ (R166). -/
def execCursorRead (k : Link) (params : BitVec 16) (s : State) : Host.Outcome State Fault Refusal :=
  whileRunning (s.select k.port) (serveShort k kindCursorRead params (params == 0) onAnyPort (takeCursorRead k.port))

/-- A write that was taken steps the cursor, unless its mode is NONE (R167). -/
def stepAfterWrite (p : PortId) (t : Taken) : Taken :=
  (if (t.1.port p).cursor.mode = .none then t.1 else t.1.stepCursor p, t.2)

/-- A cursor write to the tariff table (R82, R167). -/
def cursorTariff (p : PortId) (index : Nat) (w : CursorEntry) (s : State) : Taken :=
  if !onBackhaul p then replyStatus s .notPermitted
  else match planAt index with
    | none => replyStatus s .range
    | some plan => match w with
      | .tariff v => stepAfterWrite p (writeTariff plan v s)
      | .map _ _ => replyStatus s .badRequest
      | .other _ => replyStatus s .badRequest

/-- A cursor write to the dock map (R53, R167). DEDUCED: assumption 33. -/
def cursorMap (p : PortId) (index : Nat) (w : CursorEntry) (s : State) : Taken :=
  if !onBackhaulOrService p then replyStatus s .notPermitted
  else match dockNamed (index + 1) with
    | none => replyStatus s .range
    | some d => match w with
      | .map valid address =>
        if isBit valid then
          let r := takeMapWrite d valid address s
          if r.2 then stepAfterWrite p r.1 else r.1
        else replyStatus s .badRequest
      | .tariff _ => replyStatus s .badRequest
      | .other _ => replyStatus s .badRequest

/-- CURSOR_WRITE: its permission goes by the table its cursor stands on (R164, R167).  On DOCKS and CARDS it is BAD_REQUEST at
every index, also at or past the table's end. DESIGN CHOICE: assumption 44. -/
def takeCursorWrite (p : PortId) (w : CursorEntry) (s : State) : Taken :=
  let c := (s.port p).cursor
  match c.table with
  | .tariffs => cursorTariff p c.index w s
  | .map => cursorMap p c.index w s
  | .docks => replyStatus s .badRequest
  | .cards => replyStatus s .badRequest

/-- CURSOR_WRITE (R167). -/
def execCursorWrite (f : LongFrame) (w : CursorEntry) (s : State) : Host.Outcome State Fault Refusal :=
  whileRunning (s.select f.link.port)
    (serveLong f (Instr.cursorWrite f w).layout true onAnyPort (takeCursorWrite f.link.port w))

end Sys2Proof.Machine
end

