-- ==== Sys2Proof/Machine/ManifestRows.lean ====
section
/-! DEFINITION. The manifest requests and timers (R113 to R115, R121, R127 to R132). -/

namespace Sys2Proof.Machine

/-! ## MANIFEST_STAGE and MANIFEST_OPEN -/

/-- A manifest as it is created (R111, R112). -/
def newManifest (id : Nat) (state : MState) (origin : MOrigin) (lines : List MLine) : Manifest :=
  { id, state, origin, staff := none, stagedUntil := none, idleAt := none, reason := none, waiting := false, lines }

/-- Puts a manifest in a slot; MANIFEST is set (R113, R115, R133). -/
def State.putManifest (s : State) (m : SlotNo) (x : Manifest) : State :=
  { s with manifests := s.manifests.set m.val (some x) m.isLt }.noticeAll noticeManifest

/-- The reply OK to a staging, a claim or a creation, made at the end of the step (R113, R115). -/
def openedAnswer (m : SlotNo) (s : State) : Answer := { status := .ok, content := some (openedBytes s m) }

/-- The STAGED manifest is created in a slot (R113). -/
def stageIn (m : SlotNo) (id validity clock : Nat) (lines : List MLine) (s : State) : State :=
  let u := stationTimeAfter s clock (60 * validity)
  u.2.putManifest m { newManifest id .staged .backhaul lines with stagedUntil := some u.1 }

/-- MANIFEST_STAGE at the manifest unit (R113). -/
def takeStage (id : BitVec 16) (validity : Byte) (lines : List LineWords) (s : State) : Taken :=
  match linesOfWords lines with
  | none => replyStatus s .badRequest
  | some ls =>
    if id = 0 ∨ validity.toNat < 5 ∨ 240 < validity.toNat then replyStatus s .badRequest
    else match s.clock with
      | none => replyStatus s .notCommissioned
      | some t =>
        if (slotWithId s id.toNat).isSome then replyStatus s .duplicate
        else match freeSlot s with
          | none => replyStatus s .noSlot
          | some m => concludedAnswer (stageIn m id.toNat validity.toNat t ls) (openedAnswer m) s

/-- MANIFEST_STAGE (R113). -/
def execManifestStage (f : LongFrame) (id : BitVec 16) (validity : Byte) (lines : List LineWords) (s : State) :
    Host.Outcome State Fault Refusal :=
  whileRunning (s.select f.link.port)
    (serveLong f (Instr.manifestStage f id validity lines).layout (lineCodesOk lines) onBackhaul
    (takeStage id validity lines))

/-- Whether a serial is that of an active staff card that has not expired (R114). -/
def staffCard (s : State) (serial : Serial) : Bool := match findCard s serial with
  | some c => c.isStaff && c.status == .active && !cardExpired s c
  | none => false

/-- A claim: the STAGED manifest in a slot becomes ACTIVE (R115). -/
def claimIn (m : SlotNo) (staff : Serial) (s : State) : State :=
  (s.updManifest m fun x =>
    { x with
      state := .active, staff := some staff, stagedUntil := none
      idleAt := some (s.uptime + s.settings.idleTimeout) }).noticeAll noticeManifest

/-- A creation of an ACTIVE manifest in a slot (R115). -/
def createIn (m : SlotNo) (staff : Serial) (id : Nat) (lines : List MLine) (s : State) : State :=
  s.putManifest m
    { newManifest id .active .service lines with
      staff := some staff, idleAt := some (s.uptime + s.settings.idleTimeout) }

/-- The slots whose manifest is STAGED. -/
def stagedSlots (s : State) : List SlotNo := bothSlots.filter fun m => (s.manifests.get m).any fun x => x.state == .staged

/-- Check 4 of R114: the slot of a manifest with the id, where the id is not 0. -/
def namedSlot (s : State) (id : Nat) : Option SlotNo := if id = 0 then none else slotWithId s id

/-- Checks 6 to 8 of R114. -/
def openNew (staff : Serial) (id : Nat) (lines : List LineWords) (s : State) : Taken :=
  match linesOfWords lines with
  | none => replyStatus s .badRequest
  | some ls =>
    if id = 0 then replyStatus s .badRequest
    else match freeSlot s with
      | none => replyStatus s .noSlot
      | some m => concludedAnswer (createIn m staff id ls) (openedAnswer m) s

/-- Checks 4 to 8 of R114. -/
def openNamed (staff : Serial) (id : Nat) (adopt : Bool) (lines : List LineWords) (s : State) : Taken :=
  match namedSlot s id with
  | some m =>
    if (s.manifests.get m).any fun x => x.state == .staged then concludedAnswer (claimIn m staff) (openedAnswer m) s
    else replyStatus s .duplicate
  | none =>
    match adopt, stagedSlots s with
    | true, [m] => concludedAnswer (claimIn m staff) (openedAnswer m) s
    | _, _ => openNew staff id lines s

/-- MANIFEST_OPEN at the manifest unit (R114, R115). -/
def takeOpen (staff : Serial) (id : BitVec 16) (adopt : Byte) (lines : List LineWords) (s : State) : Taken :=
  if lines ≠ [] ∧ linesOfWords lines = none then replyStatus s .badRequest
  else if !staffCard s staff then replyStatus s .notStaff
  else if (activeSlot s).isSome then replyStatus s .busy
  else openNamed staff id.toNat (adopt == 1) lines s

/-- MANIFEST_OPEN (R114). -/
def execManifestOpen (f : LongFrame) (staff : Serial) (id : BitVec 16) (adopt : Byte) (lines : List LineWords)
    (s : State) : Host.Outcome State Fault Refusal :=
  whileRunning (s.select f.link.port)
    (serveLong f (Instr.manifestOpen f staff id adopt lines).layout (isBit adopt && lineCodesOk lines)
    onService (takeOpen staff id adopt lines))

/-! ## MANIFEST_RELEASE -/

/-- How many docks a MANIFEST_RELEASE may grant (R121). -/
def vanLimit (s : State) (count : Nat) : Nat := min count (4 - vanReleasesOpen s.docks)

/-- Check 6 of R121: the grants, and the request that waits for their outcomes; BUSY where the journal refuses the first
reservation. -/
def releaseHeld (tag : BitVec 2) (m : SlotNo) (i count : Nat) (s : State) : Taken :=
  let r := grantVans m i ((vanReady s m i).take (vanLimit s count)) s
  if r.2.isEmpty then replyStatus s .busy
  else
    (conclude s { r.1 with vanWaits := r.1.vanWaits ++ [{ tag, entries := r.2.map fun d => ⟨d, none⟩ }] }, none)

/-- Checks 3 to 6 of R121 for the ACTIVE manifest's slot, its idle deadline restarted. -/
def releaseFrom (tag : BitVec 2) (m : SlotNo) (i count : Nat) (s : State) : Taken :=
  if !((lineOf s.manifests m i).any fun l => l.action == .load) then replyStatus s .badRequest
  else if 4 ≤ vanReleasesOpen s.docks then replyStatus s .busy
  else if (vanReady s m i).isEmpty then refuseFor s .noneFree
  else releaseHeld tag m i count s

/-- MANIFEST_RELEASE at the manifest unit (R121, R128). -/
def takeRelease (tag : BitVec 2) (line count : Nat) (s : State) : Taken :=
  if count < 1 ∨ 4 < count then replyStatus s .badRequest
  else match activeSlot s with
    | none => replyStatus s .notFound
    | some m => releaseFrom tag m line count (s.restartIdle m)

/-- MANIFEST_RELEASE (R121). -/
def execManifestRelease (k : Link) (line count : Byte) (s : State) : Host.Outcome State Fault Refusal :=
  whileRunning (s.select k.port) (serveShort k kindManifestRelease (paramsOf line count) true onService
    (takeRelease k.tag line.toNat count.toNat))

/-! ## MANIFEST_CLOSE -/

/-- The reply OK to a close, as the slot stands at the end of the step: the slot, 0FFh when freed, the close reason, and
close waiting (R129, 10.4). DEDUCED: assumption 31. -/
def closedAnswer (m : SlotNo) (reason : Option CloseReason) (s : State) : Answer :=
  { status := .ok
    content := some (match s.manifests.get m with
      | some x => [oneByte m.val, closeByte x.reason x.waiting]
      | none => [0xFF, closeByte reason false]) }

/-- A close that takes effect (R129, R130). -/
def closeNow (m : SlotNo) (reason : CloseReason) (s : State) : Taken :=
  concludedAnswer (fun t => t.enterClosing m reason) (closedAnswer m (some reason)) s

/-- MANIFEST_CLOSE from the service port (R129). -/
def closeFromService (id : Nat) (s : State) : Taken :=
  match (slotWithId s id).filter fun m => (s.manifests.get m).any fun x => x.state == .active with
  | some m => closeNow m .done s
  | none => replyStatus s .notFound

/-- MANIFEST_CLOSE from the backhaul port (R129). -/
def closeFromBackhaul (id : Nat) (s : State) : Taken := match slotWithId s id with
  | none => replyStatus s .notFound
  | some m => match s.manifests.get m with
    | none => replyStatus s .notFound
    | some x => match x.state with
      | .staged => closeNow m .cancelled s
      | .active => replyStatus s .busy
      | .closing => (s, some (closedAnswer m x.reason s))

/-- MANIFEST_CLOSE at the manifest unit (R129). -/
def takeClose (p : PortId) (id : Nat) (s : State) : Taken :=
  if id = 0 then replyStatus s .badRequest
  else match p with
    | .service => closeFromService id s
    | .backhaul => closeFromBackhaul id s
    | .kiosk => replyStatus s .notPermitted

/-- MANIFEST_CLOSE (R129). -/
def execManifestClose (k : Link) (id : BitVec 16) (s : State) : Host.Outcome State Fault Refusal :=
  whileRunning (s.select k.port)
    (serveShort k kindManifestClose id true onBackhaulOrService (takeClose k.port id.toNat))

/-! ## MANIFEST_QUERY -/

/-- The slots a MANIFEST_QUERY reports: both for id 0, else that of the manifest with the id (R132). -/
def queriedSlots (s : State) (id : Nat) : List SlotNo := if id = 0 then bothSlots else (slotWithId s id).toList

/-- A query from the service port whose reply carries the ACTIVE manifest restarts its idle deadline (R128, R132). -/
def touchActive (p : PortId) (slots : List SlotNo) (s : State) : State :=
  if p = .service then slots.foldl State.restartIdle s else s

/-- MANIFEST_QUERY at the manifest unit (R132).  The idle seconds remaining are those after the restart that the query itself
makes (R128). DESIGN CHOICE: assumption 43. -/
def takeManifestQuery (p : PortId) (id : Nat) (s : State) : Taken := match queriedSlots s id with
  | [] => replyStatus s .notFound
  | slots =>
    let t := touchActive p slots s
    answerWith t .ok (slots.flatMap (slotBytes t))

/-- MANIFEST_QUERY (R132). -/
def execManifestQuery (k : Link) (id : BitVec 16) (s : State) : Host.Outcome State Fault Refusal :=
  whileRunning (s.select k.port)
    (serveShort k kindManifestQuery id true onAnyPort (takeManifestQuery k.port id.toNat))

/-! ## Timers -/

/-- An ACTIVE manifest's idle deadline is reached (R128). -/
def execIdleDeadline (m : SlotNo) (s : State) : Host.Outcome State Fault Refusal :=
  whileRunning s fun t => match t.manifests.get m with
    | some x =>
      if x.state = .active ∧ (x.idleAt.any fun u => decide (u ≤ t.uptime)) then conclude t (t.enterClosing m .idle) else t
    | none => t

/-- Whether a manifest is STAGED and station time has reached its staged-until (R127). -/
def stagedOver (s : State) (x : Manifest) : Bool := x.state == .staged && x.stagedUntil.any (clockReached s)

/-- The expiry of a STAGED manifest whose time has come (R127). -/
def State.expireStaged (s : State) (m : SlotNo) : State :=
  if (s.manifests.get m).any (stagedOver s) then s.enterClosing m .expired else s

/-- Station time reaches a STAGED manifest's staged-until (R127). -/
def execStagedExpiry (m : SlotNo) (s : State) : Host.Outcome State Fault Refusal :=
  whileRunning s fun t => if (t.manifests.get m).any (stagedOver t) then conclude t (t.expireStaged m) else t

end Sys2Proof.Machine
end

