-- ==== Sys2Proof/Machine/PortRows.lean ====
section
/-! DEFINITION. The notice requests (R170 to R172), and what happens at a port's link itself: IDLE frames, unassigned kinds,
bad headers, the release of select, and a frame clocked out (R153 to R161). -/

namespace Sys2Proof.Machine

/-! ## Notices -/

/-- NOTICE_READ at the port (R171). -/
def takeNoticeRead (p : PortId) (s : State) : Taken := answerWith s .ok (noticeReadBytes (s.port p))

/-- NOTICE_READ (R171). -/
def execNoticeRead (k : Link) (params : BitVec 16) (s : State) : Host.Outcome State Fault Refusal :=
  whileRunning (s.select k.port) (serveShort k kindNoticeRead params (params == 0) onAnyPort (takeNoticeRead k.port))

/-- NOTICE_MASK at the port (R170). -/
def takeNoticeMask (p : PortId) (flags : BitVec 16) (docks : BitVec 64) (s : State) : Taken :=
  answerWith (s.updPort p fun q => { q with masks := flags.setWidth 10, dockMasks := docks }) .ok
    (leBytes 2 flags.toNat ++ leBytes 8 docks.toNat)

/-- NOTICE_MASK (R170). -/
def execNoticeMask (f : LongFrame) (flags : BitVec 16) (docks : BitVec 64) (s : State) :
    Host.Outcome State Fault Refusal :=
  whileRunning (s.select f.link.port)
    (serveLong f (Instr.noticeMask f flags docks).layout (noticeWordOk flags) onAnyPort
    (takeNoticeMask f.link.port flags docks))

/-- The flags of a port after a clear: the named ones go, and those whose condition holds are set again (R172).
DEDUCED: assumption 27. -/
def Port.clearNotices (p : Port) (standing named : BitVec 10) (docks : BitVec 64) (counters : Bool) : Port :=
  { p with
    flags := (p.flags &&& ~~~named) ||| (named &&& standing)
    dockFlags := p.dockFlags &&& ~~~docks
    corrected := if counters then 0 else p.corrected
    headerErrors := if counters then 0 else p.headerErrors }

/-- NOTICE_CLEAR at the port (R172). -/
def takeNoticeClear (p : PortId) (flags : BitVec 16) (docks : BitVec 64) (counters : Byte) (s : State) : Taken :=
  let t := s.updPort p fun q => q.clearNotices (standingConditions s) (flags.setWidth 10) docks (counters == 1)
  answerWith t .ok (noticeClearBytes (t.port p))

/-- NOTICE_CLEAR (R172). -/
def execNoticeClear (f : LongFrame) (flags : BitVec 16) (docks : BitVec 64) (counters : Byte) (s : State) :
    Host.Outcome State Fault Refusal :=
  whileRunning (s.select f.link.port) (serveLong f (Instr.noticeClear f flags docks counters).layout
    (noticeWordOk flags && isBit counters) onAnyPort (takeNoticeClear f.link.port flags docks counters))

/-! ## Frames that reach no block -/

/-- An IDLE frame on data in: checked like any header, then dropped as filler (R154, R159). -/
def execIdleFrame (k : Link) (params : BitVec 16) (s : State) : Host.Outcome State Fault Refusal :=
  whileRunning (s.select k.port) fun t => t.updPort k.port fun q =>
    if q.discarding then q
    else
      let w := received k.flip (headerOf k.tag 0 params)
      (q.checkHeader w.1 w.2).1

/-- A frame whose kind names no request is refused BAD_REQUEST, after its checksum for a long kind (R159). -/
def execUnassignedKindFrame (f : LongFrame) (kind : BitVec 6) (params : BitVec 16) (payload : List Byte) (s : State) :
    Host.Outcome State Fault Refusal :=
  whileRunning (s.select f.link.port)
    (if isLongKind kind then
      serve f.link kind (BitVec.ofNat 16 payload.length) (sumAccepted s f.link.port f.sum payload) false true
        fun t => replyStatus t .badRequest
    else serve f.link kind params true false true fun t => replyStatus t .badRequest)

/-- A header as received that cannot be corrected, or that gives a payload length above 512 (R156).
DESIGN CHOICE: assumption 13. -/
def execHeaderError (port : PortId) (header : BitVec 24) (check : Byte) (s : State) :
    Host.Outcome State Fault Refusal :=
  whileRunning (s.select port) fun t => t.updPort port fun q =>
    if q.discarding then q
    else match q.checkHeader header check with
      | (r, none) => r
      | (_, some _) => q

/-! ## The select -/

/-- The header an input frame began with, where 4 bytes of it had been clocked in. -/
def cutHeader (cut : List Byte) : Option (BitVec 24 × Byte) :=
  if 4 ≤ cut.length then some (BitVec.ofNat 24 (ofLeBytes (cut.take 3)), cut.getD 3 0) else none

/-- A truncated frame sets LINK_ERROR when its head byte had been received and its kind was not IDLE (R158). -/
def Port.noteCut (p : Port) (kind : BitVec 6) : Port := if kind = 0 then p else p.notice noticeLinkError

/-- The port after an input frame was cut short (R158); a header check completed on its first four bytes counts.
DEDUCED: assumption 32. -/
def Port.cutOff (p : Port) (cut : List Byte) : Port := match cutHeader cut, cut with
  | some (h, c), _ => match p.checkHeader h c with
    | (q, none) => q
    | (q, some g) => q.noteCut (headerKind g)
  | none, b :: _ => p.noteCut (b.setWidth 6)
  | none, [] => p

/-- Select is released: a frame cut short is discarded, a partly sent reply stays at the head of the queue, a partly sent
IDLE frame is abandoned, and the next select starts a new frame (R153, R158).  The release is seen in RETAIN too, so that a
start finds no select in progress (R174). DESIGN CHOICE: assumption 45. -/
def execSelectReleased (port : PortId) (cut : List Byte) (s : State) : Host.Outcome State Fault Refusal :=
  whileRunning (s.updPort port fun q => { q with selected := false }) fun t => t.updPort port fun q =>
    { (if q.discarding then q else q.cutOff cut) with discarding := false }

/-! ## A frame clocked out -/

/-- The frame a port sends at an output boundary: that at the head of its outbound queue, or IDLE with an empty queue
(R153). -/
def Port.outputFrame (p : Port) : List Byte := match p.queue with
  | [] => idleFrame
  | r :: _ => replyFrame r

/-- The frame that the port sent from its last output boundary has been clocked out: a reply leaves the queue and its tag
becomes free (R161); an IDLE frame changes nothing but the output (R153, R173). DESIGN CHOICE: assumption 15. -/
def Port.clockOut (p : Port) : Port := match p.queue with
  | [] => { p with lastOut := p.outputFrame }
  | r :: rest => { p with queue := rest, tags := p.tags &&& ~~~(tagBit r.tag), lastOut := p.outputFrame }

end Sys2Proof.Machine
end

