-- ==== Sys2Proof/Machine/Station.lean ====
section
/-! DEFINITION. The timebase and the retention controller: CLOCK_SET and the first setting (R176, R177), STATION_SET (R180),
STATION_RESTART (R185), RETAIN and RESET (R183, R184), and the starts (R186, R187); the tick of a second (R175). -/

namespace Sys2Proof.Machine

/-! ## Recorded times -/

/-- Changes the times of a dock record that R177 lists, with the time of a LOCKED reply whose dock still waits (R16).
DEDUCED: assumption 18. -/
def Dock.mapTimes (k : Dock) (f : Time → Time) : Dock :=
  { k with
    since := k.since.map f
    arrival := k.arrival.map fun a =>
      { a with time := f a.time, locked := a.locked.map fun l => { l with at_ := f l.at_ } }
    settle := k.settle.map fun e => { e with time := f e.time }
    lastReturn := k.lastReturn.map fun l => { l with time := f l.time } }

/-- Changes every recorded time that R177 lists. -/
def State.mapTimes (s : State) (f : Time → Time) : State :=
  { s with
    docks := s.docks.map fun k => k.mapTimes f
    journal := { s.journal with records := s.journal.records.map fun r => { r with time := f r.time } }
    faults := { s.faults with queue := s.faults.queue.map fun r => { r with first := f r.first } } }

/-- The conversion of a recorded time at the first setting, with the new clock value and the uptime of the step (R177). -/
def Time.convert (clock uptime : Nat) : Time → Time
  | .clock t => .clock t
  | .uptime r => .clock (clock - (uptime - r))

/-- A recorded uptime after a warm start with the clock unset (R187). -/
def Time.restarted : Time → Time
  | .clock t => .clock t
  | .uptime _ => .uptime 0

/-! ## CLOCK_SET -/

/-- A provisional END decided by the retract test at its converted time (R93). -/
def decideKind (s : State) (what : Settlement) (time : Time) : Settlement := match what with
  | .ended true t => stampedKind s t time.value
  | .ended false t => .ended false t
  | .retract t => .retract t
  | .vanIn m => .vanIn m

/-- Decides the provisional ENDs of a dock: its settle pending mark's, and that of an arrival that waits behind it (R93,
R177). DEDUCED: assumption 18. -/
def decideDock (s : State) (k : Dock) : Dock :=
  { k with
    settle := k.settle.map fun e => { e with what := decideKind s e.what e.time }
    arrival := k.arrival.map fun a =>
      { a with locked := a.locked.map fun l => { l with what := decideKind s l.what a.time } } }

/-- A STAGED manifest without a staged-until takes one 1,800 s after a station time (R134, R177). -/
def dateStaged (clock : Nat) (s : State) (m : SlotNo) : State :=
  if (s.manifests.get m).any fun x => x.state == .staged && x.stagedUntil.isNone then
    let u := stationTimeAfter s clock 1800
    u.2.updManifest m fun x => { x with stagedUntil := some u.1 }
  else s

/-- The work of the first setting, in the order of R177. -/
def State.firstSetting (s : State) (v : Nat) : State :=
  let t := { s with clock := some v }.mapTimes (Time.convert v s.uptime)
  let u := { t with docks := t.docks.map (decideDock t) }
  (bothSlots.foldl (dateStaged v) u).drain

/-- A setting of a clock that was set: the expiries that the new value has reached are taken (R69, R127, R176). -/
def State.laterSetting (s : State) (v : Nat) : State :=
  bothSlots.foldl State.expireStaged { s with clock := some v }.testExpiries

/-- The content of the CLOCK_SET reply (R176, 10.4). -/
def clockBytes (s : State) (v : Nat) : List Byte :=
  [bitByte s.clock.isSome] ++ leBytes 4 (orZero s.clock) ++ leBytes 4 v ++ leBytes 4 s.uptime

/-- CLOCK_SET at the timebase (R176, R177). -/
def takeClockSet (v : Nat) (s : State) : Taken :=
  if v = 0 then replyStatus s .badRequest
  else
    answerWith (conclude s (match s.clock with
        | some _ => s.laterSetting v
        | none => s.firstSetting v)) .ok (clockBytes s v)

/-- CLOCK_SET (R176). -/
def execClockSet (f : LongFrame) (time : BitVec 32) (s : State) : Host.Outcome State Fault Refusal :=
  whileRunning (s.select f.link.port)
    (serveLong f (Instr.clockSet f time).layout true onBackhaul (takeClockSet time.toNat))

/-! ## STATION_SET -/

/-- The ranges of the 13 numbers, in the order of R190 (R180). -/
def settingRanges : List (Int × Int) :=
  [(0, 65535), (5, 60), (30, 300), (0, 300), (0, 64), (30, 600), (5, 120), (5, 100), (0, 3), (1, 32), (5, 300), (10, 600),
    (60, 3600)]

/-- The 13 numbers a request carries, in the order of R190. -/
def settingValues (w : SettingsWords) : List Int :=
  [w.stationNumber.toInt, w.memberWindow.toInt, w.vanWindow.toInt, w.retractWindow.toInt, w.lowFill.toInt,
    w.attribution.toInt, w.sweepPeriod.toInt, w.replyTimeout.toInt, w.retryLimit.toInt, w.dropThreshold.toInt,
    w.dropWindow.toInt, w.probeInterval.toInt, w.idleTimeout.toInt]

/-- Whether some number lies outside its range (R180). -/
def settingsClamped (w : SettingsWords) : Bool :=
  !(((settingValues w).zip settingRanges).all fun p => inRange p.2.1 p.2.2 p.1)

/-- Whether every choice is one of its codes (R180, R190). -/
def choicesOk (w : SettingsWords) : Bool :=
  isBit w.lineParity && isBit w.parityCheck && isBit w.sumKiosk && isBit w.sumBackhaul && isBit w.sumService

/-- A number clamped to a range whose lower end is not negative. -/
def clampNat (lo hi : Nat) (v : BitVec 32) : Nat := (clampInt lo hi v.toInt).toNat

/-- The settings a write stores (R180). -/
def settingsOf (w : SettingsWords) : Settings :=
  { stationNumber := clampNat 0 65535 w.stationNumber, memberWindow := clampNat 5 60 w.memberWindow
    vanWindow := clampNat 30 300 w.vanWindow, retractWindow := clampNat 0 300 w.retractWindow
    lowFill := clampNat 0 64 w.lowFill, attribution := clampNat 30 600 w.attribution
    sweepPeriod := clampNat 5 120 w.sweepPeriod, replyTimeout := clampNat 5 100 w.replyTimeout
    retryLimit := clampNat 0 3 w.retryLimit, dropThreshold := clampNat 1 32 w.dropThreshold
    dropWindow := clampNat 5 300 w.dropWindow, probeInterval := clampNat 10 600 w.probeInterval
    idleTimeout := clampNat 60 3600 w.idleTimeout, oddParity := w.lineParity == 0, parityCheck := w.parityCheck == 1
    sumKiosk := w.sumKiosk == 1, sumBackhaul := w.sumBackhaul == 1, sumService := w.sumService == 1 }

/-- STATION_SET with write flag no (R180). -/
def takeStationRead (s : State) : Taken := answerWith s .ok (stationBytes s)

/-- STATION_SET with write flag no (R180). -/
def execStationSetRead (f : LongFrame) (s : State) : Host.Outcome State Fault Refusal :=
  whileRunning (s.select f.link.port) (serveLong f (Instr.stationSetRead f).layout true onBackhaul takeStationRead)

/-- STATION_SET with write flag yes (R180). -/
def takeStationWrite (w : SettingsWords) (s : State) : Taken :=
  let t := { s with settings := settingsOf w }
  answerWith t (okOr (settingsClamped w)) (stationBytes t)

/-- STATION_SET with write flag yes (R180). -/
def execStationSetWrite (f : LongFrame) (w : SettingsWords) (s : State) : Host.Outcome State Fault Refusal :=
  whileRunning (s.select f.link.port)
    (serveLong f (Instr.stationSetWrite f w).layout (choicesOk w) onBackhaul (takeStationWrite w))

/-! ## What stops the part -/

/-- Whether a dock holds a WRITE_TAG clear of a stamp in its step list, its slot or the exchange in flight (R20, R30). -/
def holdsClear (s : State) (d : DockNo) : Bool :=
  (s.dock d).steps.contains .clear || (s.lane d).slot.any (fun c => c.cmd == .clear)
    || s.line.inFlight.any fun x => x.dock == d && x.cmd == .clear

/-- The part stops: what R30 keeps of each dock's pending clears is noted, and a pending restart is lost (R183, R185). -/
def State.stop (s : State) (mode : Mode) : State :=
  { s with
    mode, restart := none
    docks := allDocks.foldl (fun t d => Docks.update t d fun k => { k with clearHeld := holdsClear s d }) s.docks }

/-- The retained set at its cold contents (R186). -/
def State.coldContents (s : State) : State :=
  { s with
    map := Vector.replicate 64 none, docks := Vector.replicate 64 Dock.cleared, cards := [], nextGuest := 1
    tripSerial := 0, tariffs := Vector.replicate 8 Tariff.cold, journal := ⟨[], 1, 0⟩
    manifests := Vector.replicate 2 none, faults := ⟨[], 1, 0, Policy.coldTable⟩, settings := Settings.cold
    clock := none }

/-! ## Starts -/

/-- Whether a select is in progress at a port when a start is taken: a frame has been clocked under it, or the start finds its
wire asserted, with no frame yet clocked whole (R174).  With no levels given, no wire is asserted but those frames show.
DESIGN CHOICE: assumption 45. -/
def State.selectAtStart (s : State) (p : PortId) : Bool :=
  (s.port p).selected || s.startSelects.head?.any fun w => w.at p

/-- A port unit at a start: fresh, with the bytes that remain of a select in progress discarded (R174). -/
def Port.fresh (selected : Bool) : Port := { Port.start with selected, discarding := selected }

/-- What every start does to what is not retained: fresh port units, a fresh line controller, uptime 0, the start record and
a valid marker (R56, R174, R182, R184); the levels of the select wires that it finds are read. -/
def State.freshStart (s : State) (kind : StartKind) (cause : StartCause) : State :=
  { s with
    uptime := 0, mode := .run, resetLow := false, marker := true, started := ⟨kind, cause⟩, restart := none
    line := Line.start, vanWaits := [], startSelects := s.startSelects.tail
    ports :=
      { kiosk := Port.fresh (s.selectAtStart .kiosk)
        backhaul := Port.fresh (s.selectAtStart .backhaul)
        service := Port.fresh (s.selectAtStart .service) } }

/-- The deadlines of a release run on uptime and are lost, also those a verify context has kept (R30, R182). -/
def Release.undated (r : Release) : Release := { r with deadline := none, stopped := none }

/-- A dock record at a warm start (R20, R30).  A mapped dock becomes ONLINE and enters VERIFY, unless it is JAMMED. -/
def Dock.warmStart (k : Dock) : Dock :=
  if !k.mapped then k
  else
    let q := { k with link := .online, stale := k.stale || k.clearHeld, clearHeld := false, steps := []
                      release := k.release.map Release.undated, verifyCtx := k.verifyCtx.map Release.undated }
    if k.custody = .jammed then { q with lastPattern := none, flash := none } else q.enterVerify

/-- Whether a slot holds an ACTIVE manifest. -/
def isActive (s : State) (m : SlotNo) : Bool := (s.manifests.get m).any fun x => x.state == .active

/-- The staged-until a reverted manifest takes: absent with the clock unset (R134). -/
def revertUntil (s : State) : Option Nat × State := match s.clock with
  | none => (none, s)
  | some t =>
    let u := stationTimeAfter s t 1800
    (some u.1, u.2)

/-- A manifest at a warm start: an expired STAGED one enters CLOSING, an ACTIVE one reverts to STAGED (R127, R134). -/
def State.warmManifest (s : State) (m : SlotNo) : State :=
  if isActive s m then
    let u := revertUntil s
    (u.2.updManifest m fun x => { x with state := .staged, staff := none, idleAt := none, stagedUntil := u.1 }).noticeAll
      noticeManifest
  else s.expireStaged m

/-- The recorded times at a warm start (R187). -/
def State.warmTimes (s : State) : State := if s.clock.isNone then s.mapTimes Time.restarted else s

/-- The work of a warm start, in the order of R187: times and docks, manifests, guest expiries, the drain.
DEDUCED: assumption 29. -/
def State.warmWork (s : State) : State :=
  let t := s.warmTimes
  let u := { t with docks := t.docks.map Dock.warmStart }
  (bothSlots.foldl State.warmManifest u).testExpiries.drain

/-- The notices tested at the end of a start (R109, R152, R168, R174). -/
def State.startNotices (s : State) : State :=
  let t := s.riseNotices false false false
  if clockUnset t then t.noticeAll noticeClockUnset else t

/-- A start, taken whole (R184, R186, R187). DEDUCED: assumption 28. -/
def startPart (kind : StartKind) (cause : StartCause) (s : State) : State :=
  let t := s.freshStart kind cause
  let u := match kind with
    | .cold => t.coldContents
    | .warm => t.warmWork
  ((u.settleHolds.runLine.renumber).flagDocks s.docks).startNotices

/-- The kind of a start at the return of main power (R184). -/
def kindByMarker (s : State) : StartKind := if s.marker then .warm else .cold

/-! ## Restart requests -/

/-- The restart pending after a STATION_RESTART: COLD replaces WARM, and the first request's reply and time stand (R185). -/
def restartAfter (s : State) (kind : StartKind) (tag : BitVec 2) : Restart := match s.restart with
  | none => { kind, tag, taken := s.uptime }
  | some r => { r with kind := if kind = .cold then .cold else r.kind }

/-- STATION_RESTART at the retention controller (R185). -/
def takeRestart (tag : BitVec 2) (kind : Byte) (s : State) : Taken :=
  replyStatus { s with restart := some (restartAfter s (if kind = 1 then .cold else .warm) tag) } .ok

/-- STATION_RESTART (R185); its second parameter has no use and must be 0 (R189). -/
def execStationRestart (k : Link) (kind second : Byte) (s : State) : Host.Outcome State Fault Refusal :=
  whileRunning (s.select k.port)
    (serveShort k kindStationRestart (paramsOf kind second) (isBit kind && second == 0) onBackhaul
    (takeRestart k.tag kind))

/-- The start of a part that restarts while it runs: what R30 keeps is noted first. -/
def restartNow (kind : StartKind) (s : State) : State := startPart kind .restart (s.stop .run)

/-- The kind of the restart that comes due by a reply clocked out: the first request's, on the backhaul port (R185). -/
def restartByReply (s : State) (port : PortId) : Option StartKind := match s.restart, (s.port port).queue with
  | some r, q :: _ => if port = .backhaul ∧ q.tag = r.tag then some r.kind else none
  | _, _ => none

/-- The last byte of the reply at the head of a port's queue is clocked out (R161); a restart may come due by it (R185).
With an empty queue it is an IDLE frame's (R153). DESIGN CHOICE: assumption 15. -/
def execReplyClockedOut (port : PortId) (s : State) : Host.Outcome State Fault Refusal :=
  whileRunning (s.select port) fun t =>
    let u := t.updPort port Port.clockOut
    match restartByReply t port with
    | some kind => restartNow kind u
    | none => u

/-- 2 s of uptime have passed since the first STATION_RESTART (R185). -/
def execRestartDue (s : State) : Host.Outcome State Fault Refusal :=
  whileRunning s fun t => match t.restart with
    | some r => if r.taken + 2 ≤ t.uptime then restartNow r.kind t else t
    | none => t

/-! ## Power and RESET -/

/-- Main power fails: the part enters RETAIN (R183). -/
def execMainPowerFail (s : State) : Host.Outcome State Fault Refusal :=
  .next (match s.mode with
    | .run => s.stop .retain
    | .held => { s with mode := .retain }
    | .startWaits => { s with mode := .retain }
    | .retain => s)

/-- Main power returns: a start, which waits where RESET is still asserted (R184). -/
def execMainPowerReturn (s : State) : Host.Outcome State Fault Refusal :=
  .next (match s.mode with
    | .retain => if s.resetLow then { s with mode := .startWaits } else startPart (kindByMarker s) .power s
    | .run => s
    | .held => s
    | .startWaits => s)

/-- The battery supply fails: in RETAIN the retained set is lost (R182, R183). DESIGN CHOICE: assumption 4. -/
def execBatteryFail (s : State) : Host.Outcome State Fault Refusal :=
  .next (match s.mode with
    | .retain => { s.coldContents with marker := false }
    | .run => s
    | .held => s
    | .startWaits => s)

/-- RESET is asserted: with main power present it holds the part (R184). DEDUCED: assumption 30. -/
def execResetAsserted (s : State) : Host.Outcome State Fault Refusal :=
  .next (match s.mode with
    | .run => { s.stop .held with resetLow := true }
    | .held => s
    | .startWaits => s
    | .retain => s)

/-- RESET is released: the start it held back is taken (R184). -/
def execResetReleased (s : State) : Host.Outcome State Fault Refusal :=
  .next (match s.mode with
    | .held => startPart .warm .reset s
    | .startWaits => startPart (kindByMarker s) .power s
    | .retain => { s with resetLow := false }
    | .run => s)

/-! ## The second -/

/-- Whether the station clock counts: while it is set, on main power and on a battery that holds it (R175, R182). -/
def clockCounts (s : State) : Bool := s.mode != .retain || s.marker

/-- One second passes: the uptime counts while the part runs, and the station clock while it is set (R175).
DESIGN CHOICE: assumption 1. -/
def State.tick (s : State) : State :=
  { s with
    uptime := if s.mode = .run then satSucc max32 s.uptime else s.uptime
    clock := if clockCounts s then s.clock.map (satSucc max32) else s.clock }

end Sys2Proof.Machine
end

