-- ==== Sys2Proof/Machine/Dispatch.lean ====
section
/-! DEFINITION. One arm per command, each one direct call of its meaning. -/

namespace Sys2Proof.Machine

def exec (i : Instr) (s : State) : Host.Outcome State Fault Refusal :=
  match i with
  | .cardPut f r => Sys2Proof.Machine.execCardPut f r s
  | .cardCredit f serial delta => Sys2Proof.Machine.execCardCredit f serial delta s
  | .cardStatus f serial status => Sys2Proof.Machine.execCardStatus f serial status s
  | .cardTrips f serial count => Sys2Proof.Machine.execCardTrips f serial count s
  | .cardDrop f serial => Sys2Proof.Machine.execCardDrop f serial s
  | .cardQuery f serial => Sys2Proof.Machine.execCardQuery f serial s
  | .cardQueryShortForm k position => Sys2Proof.Machine.execCardQueryShortForm k position s
  | .guestIssue f serial plan deposit validity => Sys2Proof.Machine.execGuestIssue f serial plan deposit validity s
  | .releaseDock f serial dock => Sys2Proof.Machine.execReleaseDock f serial dock s
  | .releaseAny f serial => Sys2Proof.Machine.execReleaseAny f serial s
  | .tariffPut f plan v => Sys2Proof.Machine.execTariffPut f plan v s
  | .journalRead f number => Sys2Proof.Machine.execJournalRead f number s
  | .journalTake f number => Sys2Proof.Machine.execJournalTake f number s
  | .manifestStage f id validity lines => Sys2Proof.Machine.execManifestStage f id validity lines s
  | .manifestOpen f staff id adopt lines => Sys2Proof.Machine.execManifestOpen f staff id adopt lines s
  | .manifestRelease k line count => Sys2Proof.Machine.execManifestRelease k line count s
  | .manifestClose k id => Sys2Proof.Machine.execManifestClose k id s
  | .manifestQuery k id => Sys2Proof.Machine.execManifestQuery k id s
  | .faultReport f dock code present card => Sys2Proof.Machine.execFaultReport f dock code present card s
  | .faultRead k params => Sys2Proof.Machine.execFaultRead k params s
  | .faultAck f discarded entries => Sys2Proof.Machine.execFaultAck f discarded entries s
  | .faultDrop k number => Sys2Proof.Machine.execFaultDrop k number s
  | .policySet k code policy => Sys2Proof.Machine.execPolicySet k code policy s
  | .bikeMarkSet f dock code expected => Sys2Proof.Machine.execBikeMarkSet f dock code expected s
  | .bikeMarkClear f dock code expected => Sys2Proof.Machine.execBikeMarkClear f dock code expected s
  | .bikeClear f dock expected => Sys2Proof.Machine.execBikeClear f dock expected s
  | .dockReset k dock second => Sys2Proof.Machine.execDockReset k dock second s
  | .mapPut f dock valid address => Sys2Proof.Machine.execMapPut f dock valid address s
  | .clockSet f time => Sys2Proof.Machine.execClockSet f time s
  | .stationSetRead f => Sys2Proof.Machine.execStationSetRead f s
  | .stationSetWrite f w => Sys2Proof.Machine.execStationSetWrite f w s
  | .stationRestart k kind second => Sys2Proof.Machine.execStationRestart k kind second s
  | .cursorSet k index table mode rest => Sys2Proof.Machine.execCursorSet k index table mode rest s
  | .cursorRead k params => Sys2Proof.Machine.execCursorRead k params s
  | .cursorWrite f w => Sys2Proof.Machine.execCursorWrite f w s
  | .noticeRead k params => Sys2Proof.Machine.execNoticeRead k params s
  | .noticeMask f flags docks => Sys2Proof.Machine.execNoticeMask f flags docks s
  | .noticeClear f flags docks counters => Sys2Proof.Machine.execNoticeClear f flags docks counters s
  | .idleFrame k params => Sys2Proof.Machine.execIdleFrame k params s
  | .unassignedKindFrame f kind params payload => Sys2Proof.Machine.execUnassignedKindFrame f kind params payload s
  | .headerError port header check => Sys2Proof.Machine.execHeaderError port header check s
  | .selectReleased port cut => Sys2Proof.Machine.execSelectReleased port cut s
  | .replyClockedOut port => Sys2Proof.Machine.execReplyClockedOut port s
  | .query block call => Sys2Proof.Machine.execQuery block call s
  | .unlock status call => Sys2Proof.Machine.execUnlock status call s
  | .lock status call => Sys2Proof.Machine.execLock status call s
  | .writeTagStamp status call => Sys2Proof.Machine.execWriteTagStamp status call s
  | .writeTagClear status call => Sys2Proof.Machine.execWriteTagClear status call s
  | .writeTagMark status call => Sys2Proof.Machine.execWriteTagMark status call s
  | .writeTagClearMark status call => Sys2Proof.Machine.execWriteTagClearMark status call s
  | .showReply status call => Sys2Proof.Machine.execShow status call s
  | .probe status call => Sys2Proof.Machine.execProbe status call s
  | .replyTimeout call => Sys2Proof.Machine.execReplyTimeout call s
  | .callWireAsserted => Sys2Proof.Machine.execCallWireAsserted s
  | .callRoundArbitration rank call => Sys2Proof.Machine.execCallRoundArbitration rank call s
  | .tap n serial => Sys2Proof.Machine.execTap n serial s
  | .insert n block => Sys2Proof.Machine.execInsert n block s
  | .removed n => Sys2Proof.Machine.execRemoved n s
  | .faultKey n code => Sys2Proof.Machine.execFaultKey n code s
  | .jam n => Sys2Proof.Machine.execJam n s
  | .badNewsFrame frame call => Sys2Proof.Machine.execBadNewsFrame frame call s
  | .newsTimeout call => Sys2Proof.Machine.execNewsTimeout call s
  | .releaseDeadline dock => Sys2Proof.Machine.execReleaseDeadline dock s
  | .flashDeadline dock => Sys2Proof.Machine.execFlashDeadline dock s
  | .dropWindowEnd dock => Sys2Proof.Machine.execDropWindowEnd dock s
  | .probeTimer dock => Sys2Proof.Machine.execProbeTimer dock s
  | .sweepTimer => Sys2Proof.Machine.execSweepTimer s
  | .idleDeadline slot => Sys2Proof.Machine.execIdleDeadline slot s
  | .stagedExpiry slot => Sys2Proof.Machine.execStagedExpiry slot s
  | .guestExpiry serial => Sys2Proof.Machine.execGuestExpiry serial s
  | .restartDue => Sys2Proof.Machine.execRestartDue s
  | .mainPowerFail => Sys2Proof.Machine.execMainPowerFail s
  | .mainPowerReturn => Sys2Proof.Machine.execMainPowerReturn s
  | .batteryFail => Sys2Proof.Machine.execBatteryFail s
  | .resetAsserted => Sys2Proof.Machine.execResetAsserted s
  | .resetReleased => Sys2Proof.Machine.execResetReleased s
  | .badReply frame call => Sys2Proof.Machine.execBadReply frame call s

end Sys2Proof.Machine
end

