-- ==== Sys2Proof/Safety.lean ====
section
/-! DEFINITION. What a safe run is, in the terms the statements use: what stands on the tables stays in its range and its
order; and the words a statement says a step in: a request frame that arrives well, the port after it, the reply, and what
the end of a step may still change. -/

namespace Sys2Proof.Machine

/-! ## Ranges and orders -/

/-- A tariff record with every field in its range (R80). -/
abbrev Tariff.Ranged (t : Tariff) : Prop :=
  t.free ≤ 240 ∧ (1 ≤ t.block ∧ t.block ≤ 120) ∧ t.price ≤ 5000 ∧ t.cap ≤ 100000 ∧ (1 ≤ t.limit ∧ t.limit ≤ 7)
    ∧ ((-100000) ≤ t.minFunds ∧ t.minFunds ≤ 100000) ∧ t.credit ≤ 1000

/-- Station settings with every number in its range (R180). -/
abbrev Settings.Ranged (w : Settings) : Prop :=
  w.stationNumber ≤ 65535 ∧ (5 ≤ w.memberWindow ∧ w.memberWindow ≤ 60) ∧ (30 ≤ w.vanWindow ∧ w.vanWindow ≤ 300)
    ∧ w.retractWindow ≤ 300 ∧ w.lowFill ≤ 64 ∧ (30 ≤ w.attribution ∧ w.attribution ≤ 600)
    ∧ (5 ≤ w.sweepPeriod ∧ w.sweepPeriod ≤ 120) ∧ (5 ≤ w.replyTimeout ∧ w.replyTimeout ≤ 100) ∧ w.retryLimit ≤ 3
    ∧ (1 ≤ w.dropThreshold ∧ w.dropThreshold ≤ 32) ∧ (5 ≤ w.dropWindow ∧ w.dropWindow ≤ 300)
    ∧ (10 ≤ w.probeInterval ∧ w.probeInterval ≤ 600) ∧ (60 ≤ w.idleTimeout ∧ w.idleTimeout ≤ 3600)

/-- The settings and every tariff record are in range (R80, R180). -/
abbrev State.Priced (s : State) : Prop := s.settings.Ranged ∧ ∀ p : Fin 8, (s.tariffs.get p).Ranged

/-- A card body with its number and its money in range (R57). -/
def CardBody.ranged : CardBody → Bool
  | .member n _ b _ => 1 ≤ n && n ≤ 16777215 && decide ((-100000) ≤ b) && decide (b ≤ 10000000)
  | .guest n _ d _ => 1 ≤ n && n ≤ 65535 && decide (0 ≤ d) && decide (d ≤ 50000)
  | .staff n => 1 ≤ n && n ≤ 16777215

/-- The card table: at most 512 entries in ascending serial, each with its fields in range; and the next guest number in
its range (R57, R58, R59). -/
abbrev State.Carded (s : State) : Prop :=
  s.cards.length ≤ 512 ∧ s.cards.Pairwise (fun a b => a.serial.toNat < b.serial.toNat)
    ∧ (∀ c ∈ s.cards, c.body.ranged = true ∧ c.trips ≤ 7) ∧ (1 ≤ s.nextGuest ∧ s.nextGuest ≤ 65535)

/-- The dock map: addresses are 1-120, no two valid entries hold the same one, and a dock is mapped exactly while its entry
is valid (R1, R2, R52). -/
abbrev State.Mapped (s : State) : Prop :=
  (∀ d : DockNo, (s.dock d).mapped = (s.map.get d).isSome)
    ∧ (∀ d : DockNo, (s.map.get d).all (fun a => 1 ≤ a && a ≤ 120) = true)
    ∧ ∀ d e : DockNo, (s.map.get d).isSome = true → s.map.get d = s.map.get e → d = e

/-- The fault queue: at most 64 records, each with a number 1-65,535 that no other carries and repeats 1-15; the next number in
its range, the discarded count at most 255; and no two OPEN records share dock, bike number and code (R135, R136, R142,
R143). -/
abbrev State.Reported (s : State) : Prop :=
  s.faults.queue.length ≤ 64 ∧ s.faults.discarded ≤ 255 ∧ (1 ≤ s.faults.next ∧ s.faults.next ≤ 65535)
    ∧ (s.faults.queue.map FaultRecord.number).Nodup
    ∧ s.faults.queue.Pairwise (fun a b => a.sent = false → b.sent = false →
      ¬ (a.dock = b.dock ∧ a.bike = b.bike ∧ a.code = b.code))
    ∧ ∀ r ∈ s.faults.queue, (1 ≤ r.number ∧ r.number ≤ 65535) ∧ 1 ≤ r.repeats ∧ r.repeats ≤ 15

/-- A manifest whose fields go with its state: 1 to 16 lines each asking 1-64, a staff serial and an idle deadline while it is
ACTIVE, a staged-until only while it is STAGED, a reason exactly while it is CLOSING (R111, R112, R115, R130, R134). -/
abbrev Manifest.Formed (x : Manifest) : Prop :=
  (1 ≤ x.id ∧ x.id ≤ 65535) ∧ (1 ≤ x.lines.length ∧ x.lines.length ≤ 16)
    ∧ (∀ l ∈ x.lines, 1 ≤ l.asked ∧ l.asked ≤ 64 ∧ l.displaced ≤ 255
      ∧ (l.reservedAtClose.isSome = true ↔ x.state = .closing))
    ∧ (x.state = .active → x.staff.isSome = true) ∧ (x.idleAt.isSome = true ↔ x.state = .active)
    ∧ (x.stagedUntil.isSome = true → x.state = .staged) ∧ (x.reason.isSome = true ↔ x.state = .closing)
    ∧ (x.waiting = true → x.state = .closing)

/-- The manifests: each well formed, no two with one id, at most one ACTIVE (R111). -/
abbrev State.Slotted (s : State) : Prop :=
  (∀ m x, s.manifests.get m = some x → x.Formed)
    ∧ ∀ x y, s.manifests.get 0 = some x → s.manifests.get 1 = some y →
      x.id ≠ y.id ∧ ¬ (x.state = .active ∧ y.state = .active)

/-- A dock record whose fields are present where R1 says (R1, R8, R15, R21). -/
abbrev Dock.Shaped (k : Dock) : Prop :=
  (k.mapped = false → { k with clearHeld := false } = Dock.cleared)
    ∧ (k.release.isSome = true ↔ k.custody = .releasing)
    ∧ (k.arrival.isSome = true → k.custody = .arriving)
    ∧ (k.custody = .arriving → k.link = .online → k.arrival.isSome = true)
    ∧ (k.verifyCtx.isSome = true → k.custody = .verify ∧ k.bike.isSome = true)
    ∧ (k.custody = .empty → k.bike = none ∧ k.since = none ∧ k.mark = none ∧ k.lastReturn = none)
    ∧ (k.custody = .docked ∨ k.custody = .releasing ∨ k.custody = .arriving → k.bike.isSome = true)
    ∧ (k.withheld = true → k.bike = some 0)

/-- The dock table: every record in its shape, no bike number but 0 in two docks (R21), and, while the part runs, nothing on
the line for a dock that is not mapped (R41, R54). -/
abbrev State.Docked (s : State) : Prop :=
  (∀ d : DockNo, (s.dock d).Shaped)
    ∧ (∀ (d e : DockNo) (n : Nat), n ≠ 0 → (s.dock d).bike = some n → (s.dock e).bike = some n → d = e)
    ∧ (s.mode = .run → ∀ d : DockNo, (s.dock d).mapped = false →
      (s.lane d).slot = none ∧ ∀ x, s.line.arbiter = .exchange x → x.dock = d → x.discard = true)

/-- Whether a release's dock has the hold its purpose asks for: a van release that of its slot and line (R121). -/
def Release.heldAs (r : Release) (h : Option Hold) : Bool := match r.purpose with
  | .van m i _ => h == some ⟨m, i⟩
  | .rental _ _ => true

/-- The holds: each line's reserved count is the number of docks held for it, reserved plus done never exceeds asked, and no
hold names a line that is not there (R112, R116); a release or verify context of a held dock is a van release for its line,
and a dock in a van release is held for the line of the release (R8, R121, R124); an ARRIVING dock is held only for
an UNLOAD line, and not once its bike is locked (R116, R120, R125, R126); a manifest whose close waits holds no dock (R131); and
a dock with a settle pending mark is neither held nor in a release (R101). -/
abbrev State.Held (s : State) : Prop :=
  (∀ (m : SlotNo) (i : Nat), match lineOf s.manifests m i with
      | some l => l.reserved = (allDocks.filter fun d => (s.dock d).hold == some ⟨m, i⟩).length
        ∧ l.reserved + l.done ≤ l.asked
      | none => ∀ d : DockNo, (s.dock d).hold ≠ some ⟨m, i⟩)
    ∧ (∀ (d : DockNo) (h : Hold), (s.dock d).hold = some h →
      (∀ r, (s.dock d).release.or (s.dock d).verifyCtx = some r → ∃ tapped, r.purpose = .van h.slot h.line tapped)
      ∧ (∀ l, lineOf s.manifests h.slot h.line = some l → (s.dock d).custody = .arriving → l.action = .unload)
      ∧ (∀ a, (s.dock d).arrival = some a → a.locked = none)
      ∧ ∀ x, s.manifests.get h.slot = some x → x.waiting = false)
    ∧ (∀ (d : DockNo) (r : Release), (s.dock d).release.or (s.dock d).verifyCtx = some r → r.heldAs (s.dock d).hold = true)
    ∧ ∀ d : DockNo, (s.dock d).settle.isSome = true →
      (s.dock d).hold = none ∧ (s.dock d).custody ≠ .releasing ∧ (s.dock d).verifyCtx = none

/-- The journal: numbers consecutive up to the next record number, a reserved slot for each release or verify context, and
room and numbers kept for all of them (R95, R97, R98). -/
abbrev State.Journalled (s : State) : Prop :=
  (∀ (i : Nat) (r : JournalRecord), s.journal.records[i]? = some r →
      r.number + s.journal.records.length = s.journal.next + i)
    ∧ s.journal.records.length < s.journal.next
    ∧ s.journal.reserved
      = (allDocks.filter fun d => (s.dock d).release.isSome || (s.dock d).verifyCtx.isSome).length
    ∧ s.journal.records.length + s.journal.reserved ≤ 256
    ∧ s.journal.next + s.journal.reserved ≤ 4294967296

/-- A step that answers a next state, which a safe run is made of (no step of this part answers otherwise). -/
def Runs (i : Instr) (s t : State) : Prop := exec i s = .next t

/-! ## A request frame that arrives well -/

/-- The part runs, the port reads its input, and the request's tag is free (R153, R156, R159). -/
abbrev State.hears (s : State) (k : Link) : Prop :=
  s.mode = .run ∧ (s.port k.port).discarding = false ∧ (s.port k.port).tags.getLsbD k.tag.toNat = false

/-- Whether the header of a frame arrived with a header bit turned over, which the check corrects and counts (R156). -/
def headerCorrected (k : Link) : Bool := match k.flip with
  | some i => i.val < 24
  | none => false

/-- The state once a request frame has arrived: its tag in use at its port, a corrected header counted (R156, R159), and its
select in progress (R153, assumption 45). -/
def State.accepted (s : State) (k : Link) : State := s.updPort k.port fun q =>
  { q with
    selected := true
    tags := q.tags ||| BitVec.ofNat 4 (2 ^ k.tag.toNat)
    corrected := if headerCorrected k then min 255 (q.corrected + 1) else q.corrected }

/-- The state with the reply to a request in its port's queue (R161). -/
def State.replied (s : State) (k : Link) (status : Status) (content : Option (List Byte) := none)
    (reason : Option Reason := none) : State :=
  s.updPort k.port fun q => { q with queue := q.queue ++ [⟨k.tag, { status, reason, content }⟩] }

/-- The payload that the fields of a long request spell (R190). -/
def payloadOf (i : Instr) : List Byte := (i.layout.map Prod.snd).getD []

/-- A long request arrives well: the port hears it, its payload has the layout, and its checksum is that of its payload, or
0000h where the port does not require one (R157, R159). -/
abbrev State.gets (s : State) (f : LongFrame) (i : Instr) : Prop :=
  s.hears f.link ∧ f.misfit = none
    ∧ (f.sum = checksum (payloadOf i) ∨ (f.sum = 0 ∧ sumRequired s.settings f.link.port = false))

/-! ## Requests as the port units see them -/

/-- What the port units read of a request before its block (R159): its link, its kind, its parameters or its payload with
the checksum received, and whether its form fits its kind (step 7). -/
structure RequestFrame where
  link   : Link
  kind   : BitVec 6
  params : BitVec 16
  long   : Option (BitVec 16 × List Byte)
  form   : Bool

/-- A short request. -/
def shortRequest (k : Link) (kind : BitVec 6) (params : BitVec 16) (form : Bool := true) : Option RequestFrame :=
  some { link := k, kind, params, long := none, form }

/-- A long request. -/
def longRequest (f : LongFrame) (i : Instr) (codes : Bool := true) : Option RequestFrame :=
  i.layout.map fun x =>
    { link := f.link, kind := x.1, params := BitVec.ofNat 16 (f.misfit.getD x.2).length
      long := some (f.sum, f.misfit.getD x.2), form := f.misfit.isNone && codes }

/-- The request frame a command is; none for a command that is not a request (R189, R190). -/
def requestOf (i : Instr) : Option RequestFrame := match i with
  | .cardPut f r => longRequest f i (decide (r.kind.toNat ≤ 2) && decide (r.status.toNat ≤ 2) && decide (r.expiryPresent.toNat ≤ 1))
  | .cardCredit f _ _ => longRequest f i
  | .cardStatus f _ status => longRequest f i (decide (status.toNat ≤ 2))
  | .cardTrips f _ _ => longRequest f i
  | .cardDrop f _ => longRequest f i
  | .cardQuery f _ => longRequest f i
  | .cardQueryShortForm k position => shortRequest k 5 position
  | .guestIssue f _ _ _ _ => longRequest f i
  | .releaseDock f _ dock => longRequest f i (decide (1 ≤ dock.toNat) && decide (dock.toNat ≤ 64))
  | .releaseAny f _ => longRequest f i
  | .tariffPut f _ _ => longRequest f i
  | .journalRead f _ => longRequest f i
  | .journalTake f _ => longRequest f i
  | .manifestStage f _ _ lines => longRequest f i (lineCodesOk lines)
  | .manifestOpen f _ _ adopt lines => longRequest f i (decide (adopt.toNat ≤ 1) && lineCodesOk lines)
  | .manifestRelease k line count => shortRequest k 9 (count ++ line)
  | .manifestClose k id => shortRequest k 8 id
  | .manifestQuery k id => shortRequest k 7 id
  | .faultReport f _ _ present _ => longRequest f i (f.link.port == .service || decide (present.toNat ≤ 1))
  | .faultRead k params => shortRequest k 4 params (params == 0)
  | .faultAck f _ _ => longRequest f i
  | .faultDrop k number => shortRequest k 10 number
  | .policySet k code policy => shortRequest k 12 (policy ++ code) (decide (policy.toNat ≤ 1))
  | .bikeMarkSet f _ _ _ => longRequest f i
  | .bikeMarkClear f _ _ _ => longRequest f i
  | .bikeClear f _ _ => longRequest f i
  | .dockReset k dock second => shortRequest k 6 (second ++ dock) (second == 0)
  | .mapPut f _ valid _ => longRequest f i (decide (valid.toNat ≤ 1))
  | .clockSet f _ => longRequest f i
  | .stationSetRead f => longRequest f i
  | .stationSetWrite f w =>
    longRequest f i (decide (w.lineParity.toNat ≤ 1) && decide (w.parityCheck.toNat ≤ 1) && decide (w.sumKiosk.toNat ≤ 1)
      && decide (w.sumBackhaul.toNat ≤ 1) && decide (w.sumService.toNat ≤ 1))
  | .stationRestart k kind second => shortRequest k 11 (second ++ kind) (decide (kind.toNat ≤ 1) && second == 0)
  | .cursorSet k index table mode rest => shortRequest k 13 (rest ++ mode ++ table ++ index) (rest == 0)
  | .cursorRead k params => shortRequest k 3 params (params == 0)
  | .cursorWrite f _ => longRequest f i
  | .noticeRead k params => shortRequest k 2 params (params == 0)
  | .noticeMask f flags _ => longRequest f i (decide (flags.toNat < 1024))
  | .noticeClear f flags _ counters => longRequest f i (decide (flags.toNat < 1024) && decide (counters.toNat ≤ 1))
  | .unassignedKindFrame f kind params payload =>
    some { link := f.link, kind, params := if 32 ≤ kind.toNat then BitVec.ofNat 16 payload.length else params
           long := if 32 ≤ kind.toNat then some (f.sum, payload) else none, form := false }
  | .idleFrame _ _ | .headerError _ _ _ | .selectReleased _ _ | .replyClockedOut _ | .query _ _ | .unlock _ _
  | .lock _ _ | .writeTagStamp _ _ | .writeTagClear _ _ | .writeTagMark _ _ | .writeTagClearMark _ _ | .showReply _ _
  | .probe _ _ | .replyTimeout _ | .callWireAsserted | .callRoundArbitration _ _ | .tap _ _ | .insert _ _ | .removed _
  | .faultKey _ _ | .jam _ | .badNewsFrame _ _ | .newsTimeout _ | .releaseDeadline _ | .flashDeadline _
  | .dropWindowEnd _ | .probeTimer _ | .sweepTimer | .idleDeadline _ | .stagedExpiry _ | .guestExpiry _ | .restartDue
  | .mainPowerFail | .mainPowerReturn | .batteryFail | .resetAsserted | .resetReleased | .badReply _ _ => none

/-- The port at whose link a command's frame is clocked in or out (R153, R161). -/
def linkPort (i : Instr) : Option PortId := match i with
  | .idleFrame k _ => some k.port
  | .headerError p _ _ => some p
  | .replyClockedOut p => some p
  | other => (requestOf other).map fun r => r.link.port

/-- The ports that each kind of request is accepted on (R163): kiosk, backhaul, service. -/
def permitted (kind : BitVec 6) (p : PortId) : Bool :=
  let on (k b v : Bool) : Bool := match p with
    | .kiosk => k
    | .backhaul => b
    | .service => v
  match kind.toNat with
  | 2 | 3 | 7 | 13 | 54 | 55 | 56 => on true true true
  | 5 | 37 | 40 | 43 => on true true false
  | 39 | 41 => on true false false
  | 47 => on true false true
  | 8 | 51 => on false true true
  | 6 | 9 | 46 | 50 => on false false true
  | _ => on false true false

/-- Whether a long request's checksum is accepted at its port (R157). -/
abbrev RequestFrame.sumGood (r : RequestFrame) (s : State) : Prop := match r.long with
  | none => True
  | some (sum, payload) => sum = checksum payload ∨ (sum = 0 ∧ sumRequired s.settings r.link.port = false)

/-! ## What the end of a step may change -/

/-- A dock record less what the end of a step works on: holds, the step list, and the pattern last shown (R3, R27, R119,
R120). -/
def Dock.core (k : Dock) : Dock := { k with hold := none, steps := [], lastPattern := none }

/-- A port unit less its notice flags and dock change flags (R29, R109, R133, R144). -/
def Port.core (p : Port) : Port := { p with flags := 0, dockFlags := 0 }

/-- A lane less what waits in it (R41, R42). -/
def Lane.core (x : Lane) : Lane := { x with slot := none, display := none }

/-- The custody commands that a dock still has to have carried out, in their order: the one in flight, the one pending in its
slot, and its step list (R3, R41). -/
def State.waiting (s : State) (d : DockNo) : List Cmd :=
  ((s.line.inFlight.filter fun x => x.dock == d && x.origin == .custody).map Exchange.cmd).toList
    ++ (((s.lane d).slot.filter fun c => c.origin == .custody).map SlotCmd.cmd).toList ++ (s.dock d).steps

/-- The state `t` is `u` after the end of a step: holds are tested and refilled, closes that are due are offered, commands
are handed to the line, and flags are raised; nothing else has changed.  Holds change with the reserved counts of manifest
lines, a close adds a VAN_CLOSE record and frees its slot, and the line controller fills slots and chooses the next exchange
or round, while no custody command is lost, made or overtaken. -/
structure EndsAs (u t : State) : Prop where
  rest     : { t with docks := u.docks, line := u.line, journal := u.journal, manifests := u.manifests, ports := u.ports } = u
  docks    : ∀ d, (t.dock d).core = (u.dock d).core
  lanes    : ∀ d, (t.lane d).core = (u.lane d).core
  line     : t.line.call = u.line.call ∧ t.line.pointer = u.line.pointer ∧ t.line.sweepDue = u.line.sweepDue
    ∧ t.line.ack = u.line.ack
  busy     : u.line.arbiter ≠ .free → t.line.arbiter = u.line.arbiter ∧ t.line.rounds = u.line.rounds
  ports    : ∀ p, (t.port p).core = (u.port p).core
  flags    : ∀ p, (u.port p).flags &&& ~~~(t.port p).flags = 0
  changed  : ∀ p, (u.port p).dockFlags &&& ~~~(t.port p).dockFlags = 0
  waiting  : ∀ d, t.waiting d = u.waiting d
  reserved : t.journal.reserved = u.journal.reserved
  records  : ∃ closes : List JournalRecord, t.journal.records = u.journal.records ++ closes
    ∧ ∀ r ∈ closes, ∃ id reason lines, r.body = .vanClose id reason lines
  slots    : ∀ m, (t.manifests.get m = none ∧ ∀ x, u.manifests.get m = some x → x.state = .closing)
    ∨ ∃ x y, u.manifests.get m = some x ∧ t.manifests.get m = some y ∧ { y with lines := x.lines, waiting := x.waiting } = x ∧ y.lines.length = x.lines.length
    ∧ ∀ i : Nat, (y.lines[i]?).map (fun l => { l with reserved := 0 }) = (x.lines[i]?).map (fun l => { l with reserved := 0 })

/-! ## Starts -/

/-- A port unit after a start without its notices: fresh, and discarding what remains of a select in progress, which frames
clocked under it show or the levels of the wires that the start finds (R174). -/
def freshAfterStart (s : State) (p : PortId) : Port :=
  let selected := (s.port p).selected || (match s.startSelects with
    | w :: _ => w.at p
    | [] => false)
  { Port.start with selected, discarding := selected }

/-- The state of a cold start: the first start's state (R186) with its cause, the commands that wait, the dock change flags of
the records it changes (R29), and the bytes that remain of a select in progress discarded (R174). -/
def coldStartOf (s : State) (cause : StartCause) : State :=
  let flags := changedDocks s.docks State.reset.docks
  { State.reset with
    pending := s.pending, freeUsed := s.freeUsed, startSelects := s.startSelects.tail, started := ⟨.cold, cause⟩
    ports :=
      { kiosk := { freshAfterStart s .kiosk with flags := 0x80, dockFlags := flags }
        backhaul := { freshAfterStart s .backhaul with flags := 0x80, dockFlags := flags }
        service := { freshAfterStart s .service with flags := 0x80, dockFlags := flags } } }

/-- The verify context a dock holds after a warm start: its release context with no reply owed, or the verify context it had,
either without its deadline (R30, R182). -/
def contextAfterStart (k : Dock) : Option Release := match k.release with
  | some r => some { r with deadline := none, stopped := none, waiting := false }
  | none => k.verifyCtx.map fun r => { r with deadline := none, stopped := none }

/-- What a warm start makes of a mapped dock in any custody state but JAMMED (R20, R30). -/
abbrev VerifiesDock (k q : Dock) (held : Bool) : Prop :=
  (q.mapped = true ∧ q.link = .online ∧ q.custody = .verify)
    ∧ (q.release = none ∧ q.arrival = none ∧ q.flash = none ∧ q.verifyCtx = contextAfterStart k)
    ∧ q.bike = k.bike ∧ q.mark = k.mark ∧ q.stale = (k.stale || held)

/-- What a warm start makes of a manifest (R134). -/
def MState.afterStart (s : State) (x : Manifest) (y : Option Manifest) : Prop := match x.state with
  | .active => ∃ z, y = some z ∧ z.state = .staged ∧ z.id = x.id ∧ z.origin = x.origin ∧ z.staff = none ∧ z.idleAt = none
    ∧ (s.clock = none → z.stagedUntil = none)
    ∧ ∀ c, s.clock = some c → c + 1800 ≤ max32 → z.stagedUntil = some (c + 1800)
  | .staged =>
    if x.stagedUntil.any fun u => decide (u ≤ s.clock.getD 0) && s.clock.isSome then
      ∀ z, y = some z → z.state = .closing ∧ z.id = x.id ∧ z.reason = some .expired
    else ∃ z, y = some z ∧ z.state = .staged ∧ z.id = x.id ∧ z.stagedUntil = x.stagedUntil
  | .closing => ∀ z, y = some z → z.state = .closing ∧ z.id = x.id ∧ z.reason = x.reason

/-- The state `t` is that of a warm start taken from `s`, whose docks held a WRITE_TAG clear where `held` says so (R30, R56,
R109, R134, R152, R174, R187). -/
structure WarmStarted (s : State) (held : DockNo → Bool) (cause : StartCause) (t : State) : Prop where
  runs      : t.mode = .run ∧ t.uptime = 0 ∧ t.marker = true ∧ t.resetLow = false ∧ t.restart = none
    ∧ t.started = ⟨.warm, cause⟩ ∧ t.vanWaits = [] ∧ t.pending = s.pending ∧ t.startSelects = s.startSelects.tail
  kept      : t.clock = s.clock ∧ t.settings = s.settings ∧ t.map = s.map ∧ t.tariffs = s.tariffs
    ∧ t.tripSerial = s.tripSerial ∧ t.nextGuest = s.nextGuest ∧ t.journal.reserved = s.journal.reserved
  faults    : t.faults.next = s.faults.next ∧ t.faults.discarded = s.faults.discarded ∧ t.faults.policy = s.faults.policy
    ∧ (s.clock.isSome = true → t.faults.queue = s.faults.queue)
  verifies  : ∀ d, (s.dock d).mapped = true → (s.dock d).custody ≠ .jammed →
    VerifiesDock (s.dock d) (t.dock d) (held d) ∧ t.waiting d = [.query]
  jammed    : ∀ d, (s.dock d).mapped = true → (s.dock d).custody = .jammed → (s.dock d).arrival = none →
    (t.dock d).link = .online ∧ (t.dock d).custody = .jammed ∧ (t.dock d).bike = (s.dock d).bike ∧ t.waiting d = []
  manifests : ∀ m x, s.manifests.get m = some x → MState.afterStart s x (t.manifests.get m)
  guests    : ∀ c ∈ s.cards, c.isGuest = true → cardExpired s c = true → c.trips = 0 → findCard t c.serial = none
  ports     : ∀ p, (t.port p).core = freshAfterStart s p
    ∧ (s.clock = none → (t.port p).flags.getLsbD 7 = true)
  notices   : ∀ p, (t.port p).flags.getLsbD 1 = decide (192 ≤ t.journal.records.length + t.journal.reserved)
    ∧ (t.port p).flags.getLsbD 2 = decide (256 ≤ t.journal.records.length + t.journal.reserved)
    ∧ (t.port p).flags.getLsbD 4 = decide (32 ≤ (t.faults.queue.filter fun r => r.sent = false).length)
  changed   : ∀ p d, dockChanged (s.dock d) (t.dock d) = true → (t.port p).dockFlags.getLsbD d.val = true

/-! ## Words for values -/

/-- The header and check byte with one of the 30 protected bits turned over: 0-23 the header bits, 24-29 the check byte's
(R155). -/
def turnOver (i : Fin 30) (w : BitVec 24 × Byte) : BitVec 24 × Byte :=
  if i.val < 24 then (w.1 ^^^ BitVec.ofNat 24 (2 ^ i.val), w.2) else (w.1, w.2 ^^^ BitVec.ofNat 8 (2 ^ (i.val - 24)))

/-- A value clamped to a range of whole numbers: below it the lower end, above it the upper end (00_scope). -/
def clampTo (lo hi : Nat) (v : BitVec 32) : Nat :=
  if v.toInt < lo then lo else if (hi : Int) < v.toInt then hi else v.toInt.toNat

/-- The tariff record of seven values, each clamped to its range (R80, R81). -/
def clampedTariff (v : TariffWords) : Tariff :=
  { free := clampTo 0 240 v.free, block := clampTo 1 120 v.block, price := clampTo 0 5000 v.price
    cap := clampTo 0 100000 v.cap, limit := clampTo 1 7 v.limit
    minFunds := if v.minFunds.toInt < -100000 then -100000 else if 100000 < v.minFunds.toInt then 100000 else v.minFunds.toInt
    credit := clampTo 0 1000 v.credit }

/-- Every value of a tariff write lies in its range (R80, R81). -/
abbrev TariffInRange (v : TariffWords) : Prop :=
  (0 ≤ v.free.toInt ∧ v.free.toInt ≤ 240) ∧ (1 ≤ v.block.toInt ∧ v.block.toInt ≤ 120)
    ∧ (0 ≤ v.price.toInt ∧ v.price.toInt ≤ 5000) ∧ (0 ≤ v.cap.toInt ∧ v.cap.toInt ≤ 100000)
    ∧ (1 ≤ v.limit.toInt ∧ v.limit.toInt ≤ 7) ∧ ((-100000) ≤ v.minFunds.toInt ∧ v.minFunds.toInt ≤ 100000)
    ∧ (0 ≤ v.credit.toInt ∧ v.credit.toInt ≤ 1000)

/-! ## Who may ride, and what is available -/

/-- The station is commissioned (R179). -/
abbrev Commissioned (s : State) : Prop := s.clock.isSome = true ∧ s.settings.stationNumber ≠ 0

/-- A card that passes steps 1 to 7 of the decision, riding on a plan (R71). -/
def MayRide (s : State) (serial : Serial) (c : Card) (plan : Fin 8) : Prop :=
  Commissioned s ∧ findCard s serial = some c ∧ c.status = .active ∧ cardExpired s c = false
    ∧ c.trips + rentalsInProgress s serial < (s.tariffs.get plan).limit
    ∧ ∃ money, c.riding = some (plan, money) ∧ (s.tariffs.get plan).minFunds ≤ money ∧ (c.isGuest = true → money ≠ 0)

/-- None of the reasons of R25 holds. -/
abbrev Available (k : Dock) : Prop :=
  k.mapped = true ∧ k.link = .online ∧ k.custody = .docked ∧ k.hold = none ∧ k.settle = none ∧ k.stale = false
    ∧ k.mark = none ∧ k.bike ≠ none ∧ k.bike ≠ some 0

/-- Of the available docks, this one has the earliest docked since, and of those with the same the lowest number (R26). -/
def FirstAvailable (s : State) (d : DockNo) : Prop :=
  ∀ e : DockNo, Available (s.dock e) → sinceEarlier (s.dock e).since (s.dock d).since = false
    ∧ (e < d → sinceEarlier (s.dock d).since (s.dock e).since = true)

/-- The reasons of R25 in their order, each with whether it holds. -/
def reasonsOf (k : Dock) : List (Reason × Bool) :=
  [(.unmapped, !k.mapped), (.lost, k.link == .lost), (.verify, k.custody == .verify), (.jammed, k.custody == .jammed),
    (.empty, k.custody == .empty), (.releasing, k.custody == .releasing), (.arriving, k.custody == .arriving),
    (.held, k.hold.isSome), (.pending, k.settle.isSome), (.staleTag, k.stale),
    (.bikeFault, k.mark.isSome || k.bike.getD 0 == 0)]

/-- The first reason that holds (R25). -/
abbrev FirstReason (k : Dock) (r : Reason) : Prop := ((reasonsOf k).find? fun p => p.2) = some (r, true)

/-- The journal reserves a slot: fewer than 192 records and reserved slots, and a number left for each (R97, R98). -/
abbrev RoomToReserve (s : State) : Prop :=
  s.journal.records.length + s.journal.reserved < 192 ∧ s.journal.next + s.journal.reserved + 1 ≤ 4294967296

/-! ## Manifests -/

/-- A line as a well formed request line gives it: its action, its filter allowed for the action, asked 1-64, and its counts
as created (R112, R190). -/
abbrev LineIs (w : LineWords) (l : MLine) : Prop :=
  w.form = formByte l.action l.filter ∧ (l.action = .unload → l.filter = .any)
    ∧ w.asked.toNat = l.asked ∧ 1 ≤ l.asked ∧ l.asked ≤ 64
    ∧ l.reserved = 0 ∧ l.done = 0 ∧ l.displaced = 0 ∧ l.reservedAtClose = none

/-- A well formed line list and the lines it gives (R112). -/
def LinesAre (ws : List LineWords) (ls : List MLine) : Prop :=
  ls.length = ws.length ∧ 1 ≤ ls.length ∧ ls.length ≤ 16
    ∧ ∀ (i : Nat) (w : LineWords) (l : MLine), ws[i]? = some w → ls[i]? = some l → LineIs w l

/-- The content of the reply OK to a close: the slot, or 0FFh where it was freed, and the close reason with close waiting in
bit 7 (R129, 10.4). -/
def closedBytes (t : State) (m : SlotNo) (r : CloseReason) : List Byte := match t.manifests.get m with
  | some x => [BitVec.ofNat 8 m.val, r.code + (if x.waiting then 0x80 else 0)]
  | none => [0xFF, r.code]

/-- The slot of a manifest that entered CLOSING in a step from `s` to `t` (R130, R131, R133): freed with its VAN_CLOSE
admitted, or still holding it where a van release of it is in progress or the journal has no room. -/
def Closed (s t : State) (m : SlotNo) (x : Manifest) (r : CloseReason) : Prop :=
  (∀ p, (t.port p).flags.getLsbD 6 = true)
    ∧ (∀ d, (t.dock d).custody = (s.dock d).custody ∧ (t.dock d).release = (s.dock d).release
      ∧ (t.dock d).bike = (s.dock d).bike)
    ∧ match t.manifests.get m with
    | none => vanInProgress s.docks m = false ∧ ∃ added, t.journal.records = s.journal.records ++ added
      ∧ ∃ e ∈ added, ∃ lines, e.body = .vanClose x.id r lines
        ∧ lines.map LineSummary.reservedAtClose = x.lines.map MLine.reserved
    | some y => y.id = x.id ∧ y.state = .closing ∧ y.reason = some r ∧ y.idleAt = none ∧ y.stagedUntil = none
      ∧ y.staff = x.staff ∧ y.lines.map MLine.reservedAtClose = x.lines.map (fun l => some l.reserved)
      ∧ (vanInProgress s.docks m = false → y.waiting = true)
      ∧ (∀ d, (t.dock d).inVanReleaseOf m = false → ∀ h, (t.dock d).hold = some h → h.slot ≠ m)

/-! ## The post line -/

/-- The part runs and waits for a reply to a command of the custody unit, the sweep or a SHOW, whose outcome counts (R34,
R47). -/
abbrev State.awaits (s : State) (x : Exchange) : Prop :=
  s.mode = .run ∧ s.line.arbiter = .exchange x ∧ x.discard = false ∧ x.origin ≠ .probe

/-- The state once a good reply has ended an exchange: the line free, the consecutive-failure count 0, and the call wire as it
was read (R35, R40, R45). -/
def State.answered (s : State) (x : Exchange) (call : Bool) : State := { s with
  line := { s.line.updLane x.dock fun y => { y with failures := 0 } with arbiter := .free, call } }

/-- The part runs, and a round's winner is the post of an ONLINE dock whose news this is no repeat of (R36 to R38). -/
abbrev State.awaitsNews (s : State) (d : DockNo) (w : Nat) (n : NewsHead) : Prop :=
  s.mode = .run ∧ s.line.arbiter = .round (some w) ∧ (∀ e : DockNo, s.map.get e = some w ↔ e = d)
    ∧ (s.dock d).link = .online ∧ (s.lane d).lastSeq ≠ some n.seq

/-- The state once good news has been taken: the line free, the call wire as it was read, the news acknowledged, and its
sequence bit kept (R37). -/
def State.newsTaken (s : State) (d : DockNo) (w : Nat) (n : NewsHead) : State := { s with
  line := { s.line.updLane d fun y => { y with lastSeq := some n.seq } with
    arbiter := .free, call := n.call, ack := newsAckFrame s.settings w n.seq } }

/-- The requester of a withdrawn grant is told: a waiting port by a reply under its tag, a tap's post by a flash of 3 s, a van
request by the dock's outcome (R9, R10, R24, R28, R122). -/
def State.withdrawn (s : State) (d : DockNo) (r : Release) (st : Status) (reason : Option Reason) (o : VanOutcome) : State :=
  let flash (u : State) : State := u.updDock d fun k => { k with flash := some (s.uptime + 3) }
  let reply (tag : BitVec 2) : Reply := { tag, answer := { status := st, reason } }
  match r.purpose with
  | .rental _ .post => flash s
  | .rental _ (.kiosk tag) =>
    if r.waiting then s.updPort .kiosk fun q => { q with queue := q.queue ++ [reply tag] } else s
  | .rental _ (.backhaul tag) =>
    if r.waiting then s.updPort .backhaul fun q => { q with queue := q.queue ++ [reply tag] } else s
  | .van _ _ false => s.vanOutcome d o
  | .van _ _ true => (flash s).vanOutcome d o

/-- The requester of a grant whose bike is free is told: a waiting port by OK with the dock number and the trip serial, a van
request by UNLOCKED (R10, R11, R122). -/
def State.granted (s : State) (d : DockNo) (r : Release) : State :=
  let reply (tag : BitVec 2) (trip : Nat) : Reply :=
    { tag, answer := { status := .ok, content := some (BitVec.ofNat 8 (d.val + 1) :: leBytes 4 trip) } }
  match r.purpose with
  | .rental _ .post => s
  | .rental st (.kiosk tag) =>
    if r.waiting then s.updPort .kiosk fun q => { q with queue := q.queue ++ [reply tag st.trip] } else s
  | .rental st (.backhaul tag) =>
    if r.waiting then s.updPort .backhaul fun q => { q with queue := q.queue ++ [reply tag st.trip] } else s
  | .van _ _ _ => s.vanOutcome d .unlocked

/-- A release ends with its bike in the dock: the contexts go, the reserved slot is given up and its room offered to the drain,
and a pending mark is applied (R9, R10, R12, R14, R23, R99, R104). -/
def State.staysIn (s : State) (d : DockNo) (r : Release) (custody : Custody) : State :=
  let t := s.updDock d fun k => { k with custody, release := none, verifyCtx := none }
  let u := { t with journal := { t.journal with reserved := t.journal.reserved - 1 } }.drain
  match r.pendingMark with
  | none => u
  | some m => u.applyMark d m

/-- WRITE_TAG clear is put in the step list for a rental (R6, R10, R12, R23). -/
def Dock.clears (k : Dock) (r : Release) : Dock := match r.purpose with
  | .rental _ _ => { k with steps := putStep .clear k.steps }
  | .van _ _ _ => k

/-- A removal: the reserved slot becomes a START or VAN_OUT record, the card's trips out or the line's done count goes up, the
requester that waits is told, the dock is EMPTY without bike or context, and UNLOCK and LOCK are withdrawn (R11, R77, R99,
R124). -/
def State.removed (s : State) (d : DockNo) (r : Release) (late : Bool) : State :=
  let time := now s
  let record (body : JournalBody) (flags : JournalFlags) (u : State) : State := { u with
    journal :=
      { records := u.journal.records ++ [
          { number := u.journal.next, body, time, dock := d.val + 1, bike := (s.dock d).bike.getD 0, flags }]
        next := u.journal.next + 1, reserved := u.journal.reserved - 1 } }
  let t := match r.purpose with
    | .rental st _ =>
      let u := record (.start st.serial st.guest st.plan st.trip) { late } s
      match findCard s st.serial with
      | none => u
      | some c => if c.isStaff then u else u.putCard { c with trips := min 7 (c.trips + 1) }
    | .van m i _ =>
      let u := (record (.vanOut (match s.manifests.get m with
        | some x => x.id
        | none => 0)) { clockLate := s.clock.isNone } s).dropHold d
      (u.updLine m i fun l => { l with done := l.done + 1 }).updManifest m fun x =>
        if x.state = MState.active then { x with idleAt := some (s.uptime + s.settings.idleTimeout) } else x
  ((t.granted d r).updDock d fun k =>
    { k with
      custody := .empty, release := none, verifyCtx := none, bike := none, withheld := false, since := none
      mark := none, stale := false, lastReturn := none }).withdraw d Cmd.isLatch

/-- A jam: a LOCK fault is reported, the requester of a release not yet acknowledged is told, a release is cancelled, and the
dock is JAMMED without arrival or hold, marked 11 where its bike has a number (R14, R22, R23). -/
def State.jams (s : State) (d : DockNo) : State :=
  let t := s.report .lock 11 d (s.dock d).bike
  let u := match (s.dock d).release.or (s.dock d).verifyCtx with
    | none => t
    | some r =>
      let told := if (s.dock d).release.isSome ∧ (r.phase = Phase.stamping ∨ r.phase = Phase.unlocking) then
          t.withdrawn d r .notAvailable (some .jammed) .jammed
        else t
      (told.updDock d fun k => k.clears r).staysIn d r .jammed
  let v := (u.updDock d fun k => { k with custody := .jammed, arrival := none }).dropHold d
  if ((s.dock d).bike.getD 0) = 0 then v else v.applyMark d (.mark 11)

/-- The arrival context a bike found now starts (R15). -/
def State.arrivalNow (s : State) (d : DockNo) (tag : Option TagRecord) : Arrival :=
  { time := now s, clockLate := s.clock.isNone, tag, locked := none
    lowFill := decide ((allDocks.filter fun e => decide (e ≠ d ∧ ((s.dock e).custody = .docked ∨ (s.dock e).custody = .arriving))).length
      < s.settings.lowFill) }

/-- A dock at which an arrival starts with a bike number no other dock holds (R15, R21). -/
def Dock.arrives (k : Dock) (a : Arrival) : Dock :=
  let n := match a.tag with
    | some t => t.bike
    | none => 0
  { k with
    custody := .arriving, since := none, arrival := some a, bike := some n, withheld := false
    lastReturn := if k.bike = none ∨ k.bike = some n then k.lastReturn else none
    steps := putStep .lock k.steps }

/-- No other dock holds the number of a tag that could be read (R21). -/
abbrev State.unheld (s : State) (d : DockNo) (tag : Option TagRecord) : Prop :=
  ∀ t, tag = some t → t.bike ≠ 0 → ∀ e : DockNo, e ≠ d → (s.dock e).bike ≠ some t.bike

/-- The retract test (R85). -/
abbrev RetractTest (w : Settings) (st : Stamp) (arrival : Nat) : Prop :=
  w.stationNumber ≠ 0 ∧ w.stationNumber = st.station ∧ w.retractWindow ≠ 0
    ∧ min (arrival - st.start) 259200 < w.retractWindow

/-- Entry to VERIFY (R4, R20, R24). -/
def Dock.verifies (k : Dock) : Dock :=
  { k with
    custody := .verify, stale := k.stale || k.steps.contains .clear, steps := [.query], lastPattern := none, flash := none
    arrival := none, release := none
    verifyCtx := match k.release with
      | some r => some { r with waiting := false }
      | none => k.verifyCtx }

/-- A bad try of an exchange counts an error for its dock, and opens the drop window at the first while it is ONLINE (R43,
R44). -/
def State.erred (s : State) (d : DockNo) : State := s.updLane d fun y =>
  { y with
    errors := min 255 (y.errors + 1)
    windowEnd := if (s.dock d).online = true ∧ y.window = 0 then some (s.uptime + s.settings.dropWindow) else y.windowEnd
    window := if (s.dock d).online = true then min 32 (y.window + 1) else y.window }

/-- A WRITE_TAG clear has failed (R20). -/
def State.clearLost (s : State) (d : DockNo) : State :=
  let t := if (s.dock d).stale then s else (s.report .tag 12 d (s.dock d).bike).applyMark d (.mark 12)
  t.updDock d fun k => { k with stale := true }

/-- What the LINE_FAIL of a command does at its dock (R5, R6, R9, R10, R12, R17, R20, R42, R51). -/
def State.lineFails (s : State) (d : DockNo) (c : Cmd) : State :=
  let k := s.dock d
  let waits (u : State) : State := if k.custody = .verify ∧ k.verifyCtx = none then
      u.updDock d fun q => { q with steps := [] }
    else u
  match c with
  | .query => waits s
  | .lock =>
    if (k.custody = .verify ∧ k.verifyCtx.isSome) ∨ (k.custody = .arriving ∧ ∃ a, k.arrival = some a ∧ a.locked = none)
      ∨ (k.custody = .releasing ∧ ∃ r, k.release = some r ∧ r.phase = .relocking) then
      s.updDock d fun q => { q with steps := putStep .lock q.steps }
    else waits s
  | .unlock _ => match k.release with
    | none => s
    | some r =>
      if r.phase = Phase.unlocking then
        ((s.updDock d fun q => q.clears r).withdrawn d r .lineFail none .lineFail).staysIn d r .docked
      else s
  | .stamp _ =>
    let t := match k.release with
      | none => s
      | some r =>
        if r.phase = Phase.stamping then (s.withdrawn d r .lineFail none .lineFail).staysIn d r .docked else s
    t.updDock d fun q => { q with stale := true }
  | .clear => s.clearLost d
  | .display p => s.updLane d fun y => { y with display := y.display.or (some p) }
  | .mark _ => s
  | .clearMark => s
  | .probe => s

/-- A dock whose slot is empty by then goes LOST: a waiting requester of a release not yet acknowledged is told, custody is
frozen, a hold is dropped unless a release keeps it, a LINE fault is reported, and the probe timer is set (R20, R24, R46). -/
def State.loses (s : State) (d : DockNo) : State :=
  let k := s.dock d
  let lost (tag : BitVec 2) : Reply := { tag, answer := { status := .notAvailable, reason := some .lost } }
  let told := match k.release with
    | none => s
    | some r => if r.phase = Phase.stamping ∨ r.phase = Phase.unlocking then match r.purpose with
        | .rental _ .post => s
        | .rental _ (.kiosk tag) =>
          if r.waiting then s.updPort .kiosk fun q => { q with queue := q.queue ++ [lost tag] } else s
        | .rental _ (.backhaul tag) =>
          if r.waiting then s.updPort .backhaul fun q => { q with queue := q.queue ++ [lost tag] } else s
        | .van _ _ _ => s.vanOutcome d .lost
      else s
  let frozen := told.updDock d fun q =>
    { q with
      link := .lost, stale := q.stale || q.steps.contains .clear, steps := [], arrival := none
      release := q.release.map fun r =>
        { r with stopped := if r.deadline.isSome then some s.uptime else none, waiting := false } }
  let held := if k.custody = .releasing ∨ (k.custody = .verify ∧ k.verifyCtx.isSome = true) then frozen
    else frozen.dropHold d
  (held.report .line 10 d k.bike).updLane d fun y =>
    { y with display := none, window := 0, windowEnd := none, probeAt := some (s.uptime + s.settings.probeInterval) }

/-- A dock is dropped to LOST: a command pending in its slot is removed, a custody command handed back as LINE_FAIL, a sweep
QUERY or a SHOW dropped; then the loss (R46).  A van release whose UNLOCK was pending stays, and is frozen by the loss (R122). -/
def State.dropped (s : State) (d : DockNo) : State :=
  let t := { s with
    line := { s.line.updLane d fun y => { y with slot := none } with queue := s.line.queue.filter fun e => e != d } }
  let stays (c : Cmd) : Bool := c.isUnlock && (s.dock d).release.any Release.isVan
  (match (s.lane d).slot with
    | some c => if c.origin = Origin.custody ∧ stays c.cmd = false then t.lineFails d c.cmd else t
    | none => t).loses d

end Sys2Proof.Machine
end

