-- ==== Sys2Proof/WellFormed.lean ====
section
/-! DEFINITION. When a command is one its row can stand for.  Operands that only carry what arrived have any value; these
checks say that a frame given as one of no layout is of none, that lists fit a frame, and that a command which is named
for a failure (a header error, an unassigned kind, a frame cut short) is that failure. -/

namespace Sys2Proof

/-- Whether a payload has the layout of a long request of this kind: its length, with the list count it carries, and the
bytes that choose between two rows of the table (R190). -/
def layoutFits (k : BitVec 6) (p : List Byte) : Bool :=
  if k = kindCardPut then p.length == 22
  else if k = kindCardCredit then p.length == 11
  else if k = kindCardStatus ∨ k = kindCardTrips ∨ k = kindReleaseDock then p.length == 8
  else if k = kindCardQuery ∨ k = kindCardDrop ∨ k = kindReleaseAny then p.length == 7
  else if k = kindGuestIssue then p.length == 14
  else if k = kindTariffPut then p.length == 29
  else if k = kindJournalRead ∨ k = kindJournalTake ∨ k = kindBikeClear ∨ k = kindClockSet then p.length == 4
  else if k = kindManifestStage then 4 ≤ p.length && p.length == 4 + 2 * (p.getD 3 0).toNat
  else if k = kindManifestOpen then 11 ≤ p.length && p.length == 11 + 2 * (p.getD 10 0).toNat
  else if k = kindFaultReport ∨ k = kindNoticeMask then p.length == 10
  else if k = kindFaultAck then 2 ≤ p.length && p.length == 2 + 3 * (p.getD 1 0).toNat
  else if k = kindBikeMark then p.length == 6 && (p.getD 1 0).toNat ≤ 1
  else if k = kindMapPut then p.length == 3
  else if k = kindStationSet then
    (p.length == 1 && p.getD 0 0 == 0) || (p.length == 58 && p.getD 0 0 == 1)
  else if k = kindNoticeClear then p.length == 11
  else false

/-- A payload given as a misfit is not one of the request's layout, and fits a frame. -/
def misfitOk (k : BitVec 6) (f : LongFrame) : Bool :=
  match f.misfit with
  | none => true
  | some p => p.length ≤ maxPayload && !layoutFits k p

/-- A kind that names no request and is not IDLE, with the part of the frame its length has (R159, R189). -/
def unassignedOk (k : BitVec 6) (params : BitVec 16) (payload : List Byte) : Bool :=
  k != 0 && !namesRequest k && (if isLongKind k then params == 0 else payload == [])

/-- A header that the check of R156 ends the select's input for. -/
def headerFails (h : BitVec 24) (c : Byte) : Bool :=
  match checkHeader h c with
  | .uncorrectable => true
  | .stands h' _ => isLongKind (headerKind h') && decide (maxPayload < (headerParams h').toNat)

/-- The bytes of an input frame that is not complete (R158): fewer than a header, or fewer than the header that stands
asks for. -/
def cutShort (cut : List Byte) : Bool :=
  if cut.length < 4 then true
  else
    match checkHeader (BitVec.ofNat 24 (ofLeBytes (cut.take 3))) (cut.getD 3 0) with
    | .uncorrectable => false
    | .stands h _ =>
      isLongKind (headerKind h) && decide ((headerParams h).toNat ≤ maxPayload)
        && decide (cut.length < 6 + (headerParams h).toNat)

/-- A cursor write's payload given as of neither layout is of neither, and fits a frame (R190). -/
def entryOk : CursorEntry → Bool
  | .other p => p.length ≤ maxPayload && p.length != 28 && p.length != 2
  | .tariff _ => true
  | .map _ _ => true

/-- A command its row can stand for. -/
def Instr.wellFormed : Instr → Bool
  | .cardPut f _ => misfitOk kindCardPut f
  | .cardCredit f _ _ => misfitOk kindCardCredit f
  | .cardStatus f _ _ => misfitOk kindCardStatus f
  | .cardTrips f _ _ => misfitOk kindCardTrips f
  | .cardDrop f _ => misfitOk kindCardDrop f
  | .cardQuery f _ => misfitOk kindCardQuery f
  | .cardQueryShortForm _ _ => true
  | .guestIssue f _ _ _ _ => misfitOk kindGuestIssue f
  | .releaseDock f _ _ => misfitOk kindReleaseDock f
  | .releaseAny f _ => misfitOk kindReleaseAny f
  | .tariffPut f _ _ => misfitOk kindTariffPut f
  | .journalRead f _ => misfitOk kindJournalRead f
  | .journalTake f _ => misfitOk kindJournalTake f
  | .manifestStage f _ _ lines => misfitOk kindManifestStage f && lines.length ≤ 254
  | .manifestOpen f _ _ _ lines => misfitOk kindManifestOpen f && lines.length ≤ 250
  | .manifestRelease _ _ _ => true
  | .manifestClose _ _ => true
  | .manifestQuery _ _ => true
  | .faultReport f _ _ _ _ => misfitOk kindFaultReport f
  | .faultRead _ _ => true
  | .faultAck f _ entries => misfitOk kindFaultAck f && entries.length ≤ 170
  | .faultDrop _ _ => true
  | .policySet _ _ _ => true
  | .bikeMarkSet f _ _ _ => misfitOk kindBikeMark f
  | .bikeMarkClear f _ _ _ => misfitOk kindBikeMark f
  | .bikeClear f _ _ => misfitOk kindBikeClear f
  | .dockReset _ _ _ => true
  | .mapPut f _ _ _ => misfitOk kindMapPut f
  | .clockSet f _ => misfitOk kindClockSet f
  | .stationSetRead f => misfitOk kindStationSet f
  | .stationSetWrite f _ => misfitOk kindStationSet f
  | .stationRestart _ _ _ => true
  | .cursorSet _ _ _ _ _ => true
  | .cursorRead _ _ => true
  | .cursorWrite f w => f.misfit.isNone && entryOk w
  | .noticeRead _ _ => true
  | .noticeMask f _ _ => misfitOk kindNoticeMask f
  | .noticeClear f _ _ _ => misfitOk kindNoticeClear f
  | .idleFrame _ _ => true
  | .unassignedKindFrame f kind params payload => unassignedOk kind params payload && f.misfit.isNone && payload.length ≤ maxPayload
  | .headerError _ header check => headerFails header check
  | .selectReleased _ cut => cutShort cut
  | .replyClockedOut _ => true
  | .query _ _ => true
  | .unlock _ _ => true
  | .lock _ _ => true
  | .writeTagStamp _ _ => true
  | .writeTagClear _ _ => true
  | .writeTagMark _ _ => true
  | .writeTagClearMark _ _ => true
  | .showReply _ _ => true
  | .probe _ _ => true
  | .replyTimeout _ => true
  | .callWireAsserted => true
  | .callRoundArbitration _ _ => true
  | .tap _ _ => true
  | .insert _ _ => true
  | .removed _ => true
  | .faultKey _ _ => true
  | .jam _ => true
  | .badNewsFrame _ _ => true
  | .newsTimeout _ => true
  | .releaseDeadline _ => true
  | .flashDeadline _ => true
  | .dropWindowEnd _ => true
  | .probeTimer _ => true
  | .sweepTimer => true
  | .idleDeadline _ => true
  | .stagedExpiry _ => true
  | .guestExpiry _ => true
  | .restartDue => true
  | .mainPowerFail => true
  | .mainPowerReturn => true
  | .batteryFail => true
  | .resetAsserted => true
  | .resetReleased => true
  | .badReply _ _ => true

end Sys2Proof
end

