-- ==== Sys2Proof/Certificates/Slice0/Obligations.lean ====
section
/-! DEFINITION. What is claimed of the part: each statement formalises what the spec's numbered rules say a command does, what
it leaves alone, or what every step keeps.  A request frame arrives well where its port `hears` it (short) or `gets` it
(long); `accepted` is the state with the request's tag in use and its select in progress (assumption 45), and `replied` puts
its reply in the port's queue (Safety). -/

section

open Sys2Proof Sys2Proof.Machine

/-- A step is one command, taken whole, from the front of the queue of commands that wait. Where the rules leave it open
it follows the model's choice or inference: assumption 2. -/
def Obligations.StepRunsFrontCommand : Prop :=
  ∀ (c : Instr) (s : State), Machine.step { s with pending := c :: s.pending } = exec c s

/-- The tick of a second, which is no row of the table (the model's choice, assumption 1): the counts of R175. -/
def Obligations.IdleStepIsOneSecond : Prop :=
  ∀ s : State, s.pending = [] →
    Machine.step s = .next { s with
      uptime := if s.mode = .run then min 4294967295 (s.uptime + 1) else s.uptime
      clock := if s.mode = .retain ∧ s.marker = false then s.clock else s.clock.map fun t => min 4294967295 (t + 1) }

/-- The cold contents of R186, with the cold values of R80, R140, R170, R180 and the fresh units of R56 and R174; that
reset is the first application of power, with cause POWER, is the model's choice (assumption 3), and so is that no select is
in progress then (assumption 45). -/
def Obligations.ResetIsTheFirstStart : Prop :=
  let s := State.reset
  (s.pending = [] ∧ s.mode = .run ∧ s.clock = none ∧ s.uptime = 0 ∧ s.started = ⟨.cold, .power⟩ ∧ s.restart = none
      ∧ s.resetLow = false ∧ s.marker = true)
    ∧ (∀ d : DockNo, s.dock d = Dock.cleared ∧ s.map.get d = none ∧ s.lane d = Lane.start)
    ∧ (s.cards = [] ∧ s.nextGuest = 1 ∧ s.tripSerial = 0 ∧ s.vanWaits = [] ∧ ∀ m : SlotNo, s.manifests.get m = none)
    ∧ (∀ p : Fin 8, s.tariffs.get p = { free := 30, block := 30, price := 100, cap := 0, limit := 1, minFunds := 0, credit := 0 })
    ∧ s.journal = { records := [], next := 1, reserved := 0 }
    ∧ (s.faults.queue = [] ∧ s.faults.next = 1 ∧ s.faults.discarded = 0
      ∧ ∀ c : Fin 15, s.faults.policy.get c =
        if c.val < 6 ∨ c.val = 12 then .quarantine else if c.val < 9 then .reportOnly
        else if c.val = 10 ∨ c.val = 11 then .fixedMark else .fixedNone)
    ∧ s.settings =
      { stationNumber := 0, memberWindow := 20, vanWindow := 120, retractWindow := 90, lowFill := 0, attribution := 120
        sweepPeriod := 10, replyTimeout := 20, retryLimit := 2, dropThreshold := 6, dropWindow := 30
        probeInterval := 30, idleTimeout := 600, oddParity := true, parityCheck := true, sumKiosk := true
        sumBackhaul := true, sumService := true }
    ∧ (s.line.arbiter = .free ∧ s.line.queue = [] ∧ s.line.pointer = 1 ∧ s.line.sweepAt = none ∧ s.line.sweepDue = 0)
    ∧ ∀ p : PortId, (s.port p).tags = 0 ∧ (s.port p).queue = [] ∧ (s.port p).cursor = ⟨.docks, 0, .none⟩
      ∧ (s.port p).flags = 0x80 ∧ (s.port p).masks = 0x3FF ∧ (s.port p).dockFlags = 0
      ∧ (s.port p).dockMasks = 0xFFFFFFFFFFFFFFFF ∧ (s.port p).corrected = 0 ∧ (s.port p).headerErrors = 0
      ∧ (s.port p).discarding = false ∧ (s.port p).selected = false

/-- While the part does not run, its ports take nothing (R153, R183, R184), its post line is idle and its timers do not
count. Entry to RETAIN and to the hold of RESET (R183, R184), with the bit that R30 keeps of each dock; a pending
restart is lost. Where the rules leave it open it follows the model's choice or inference: assumptions 6 and 30, and
assumption 45 for the select wire, which is followed all the while. -/
def Obligations.StoppedPartKeepsItsState : Prop :=
  (∀ (i : Instr) (s : State), s.mode ≠ .run → i ≠ .mainPowerFail → i ≠ .mainPowerReturn → i ≠ .batteryFail →
    i ≠ .resetAsserted → i ≠ .resetReleased →
    (∀ p cut, i = .selectReleased p cut → exec i s = .next (s.updPort p fun q => { q with selected := false }))
    ∧ (∀ p, linkPort i = some p → exec i s = .next (s.updPort p fun q => { q with selected := true }))
    ∧ ((∀ p cut, i ≠ .selectReleased p cut) → linkPort i = none → exec i s = .next s))
    ∧ ((∀ s : State, s.mode = .run →
      (∃ t, exec .mainPowerFail s = .next { s with mode := .retain, restart := none, docks := t }
        ∧ ∀ d, t.get d = { s.dock d with clearHeld := holdsClear s d })
      ∧ ∃ t, exec .resetAsserted s = .next { s with mode := .held, restart := none, docks := t, resetLow := true }
        ∧ ∀ d, t.get d = { s.dock d with clearHeld := holdsClear s d })
    ∧ (∀ s : State, s.mode = .held ∨ s.mode = .startWaits →
      exec .mainPowerFail s = .next { s with mode := .retain } ∧ exec .resetAsserted s = .next s)
    ∧ ∀ s : State, s.mode = .retain → exec .mainPowerFail s = .next s ∧ exec .resetAsserted s = .next s)

/-- A cold start (R184, R186), with what every start does to the line and the ports (R56, R174), the validity marker of
R182, and the start that waits for the release of RESET (R184). What stands in place of the lost retained set until
the cold start is the model's choice (assumption 4). Where the rules leave it open it follows the model's choice or
inference: assumptions 28, 30 and 45. -/
def Obligations.ColdStartAndTheStartThatWaits : Prop :=
  ((∀ s : State, s.mode = .retain → s.resetLow = false → s.marker = false →
      exec .mainPowerReturn s = .next (coldStartOf s .power))
    ∧ ∀ s : State, s.mode = .startWaits → s.marker = false → exec .resetReleased s = .next (coldStartOf s .power))
    ∧ (((∀ s : State, s.mode = .retain → exec .batteryFail s = .next { s.coldContents with marker := false })
    ∧ ∀ s : State, s.mode ≠ .retain → exec .batteryFail s = .next s)
    ∧ ((∀ s : State, s.mode = .retain → s.resetLow = true → exec .mainPowerReturn s = .next { s with mode := .startWaits })
    ∧ (∀ s : State, s.mode = .retain → exec .resetReleased s = .next { s with resetLow := false })
    ∧ ∀ s : State, (s.mode ≠ .retain → exec .mainPowerReturn s = .next s)
      ∧ (s.mode = .run → exec .resetReleased s = .next s)))

/-- A warm start (R30, R187) for each of the causes of R184. Where the rules leave it open it follows the model's choice
or inference: assumptions 28, 29, 30 and 45. -/
def Obligations.WarmStartVerifiesTheDocks : Prop :=
  (∀ s : State, s.mode = .retain → s.resetLow = false → s.marker = true →
      ∃ t, exec .mainPowerReturn s = .next t ∧ WarmStarted s (fun d => (s.dock d).clearHeld) .power t)
    ∧ (∀ s : State, s.mode = .held →
      ∃ t, exec .resetReleased s = .next t ∧ WarmStarted s (fun d => (s.dock d).clearHeld) .reset t)
    ∧ ∀ s : State, s.mode = .startWaits → s.marker = true →
      ∃ t, exec .resetReleased s = .next t ∧ WarmStarted s (fun d => (s.dock d).clearHeld) .power t

/-- The pending restart (R185), and the starts it takes (R186, R187). Where the rules leave it open it follows the model's
choice or inference: assumptions 5, 28, 29 and 45. -/
def Obligations.RestartIsPendingUntilDue : Prop :=
  (∀ (s : State) (k : Link) (kind : Byte), s.hears k → k.port = .backhaul → kind.toNat ≤ 1 →
      exec (.stationRestart k kind 0) s = .next ({ s.accepted k with
        restart := some (match s.restart with
          | none => { kind := if kind = 1 then .cold else .warm, tag := k.tag, taken := s.uptime }
          | some r => if kind = 1 then { r with kind := .cold } else r) }.replied k .ok))
    ∧ (∀ (s : State) (r : Restart), s.mode = .run → s.restart = some r → r.taken + 2 ≤ s.uptime →
      (r.kind = .cold → exec .restartDue s = .next (coldStartOf s .restart))
      ∧ (r.kind = .warm → ∃ t, exec .restartDue s = .next t ∧ WarmStarted s (holdsClear s) .restart t))
    ∧ (∀ s : State, s.mode = .run → (∀ r, s.restart = some r → s.uptime < r.taken + 2) → exec .restartDue s = .next s)
    ∧ ∀ (s : State) (r : Restart) (q : Reply) (rest : List Reply), s.mode = .run → s.restart = some r →
      (s.port .backhaul).queue = q :: rest → q.tag = r.tag →
      let a := s.updPort .backhaul fun u => { u with selected := true }
      (r.kind = .cold → exec (.replyClockedOut .backhaul) s = .next (coldStartOf a .restart))
      ∧ (r.kind = .warm → ∃ t, exec (.replyClockedOut .backhaul) s = .next t ∧ WarmStarted a (holdsClear s) .restart t)

/-- What the check byte of R155 is for, by the outcomes of R156. -/
def Obligations.HeaderCodeCorrectsOneAndDetectsTwo : Prop :=
  ∀ h : BitVec 24,
    checkHeader h (checkByte h) = .stands h false
      ∧ (∀ i : Fin 30, let w := turnOver i (h, checkByte h); checkHeader w.1 w.2 = .stands h (decide (i.val < 24)))
      ∧ ∀ i j : Fin 30, i ≠ j →
        let w := turnOver j (turnOver i (h, checkByte h)); checkHeader w.1 w.2 = .uncorrectable

/-- Steps 1 and 3 to 8 of R159 for every request of the table, with the permissions of R163. Where the rules leave it open
it follows the model's choice or inference: assumptions 33, 38 and 45. -/
def Obligations.RequestStepsBeforeTheBlock : Prop :=
  (∀ (i : Instr) (s : State) (r : RequestFrame), requestOf i = some r → i.wellFormed = true → s.mode = .run →
    ((s.port r.link.port).discarding = true → exec i s =
      .next (s.updPort r.link.port fun q => { q with selected := true }))
    ∧ ((s.port r.link.port).discarding = false → (s.port r.link.port).tags.getLsbD r.link.tag.toNat = true →
      exec i s = .next (s.updPort r.link.port fun q =>
        { q with
          selected := true, flags := q.flags ||| 0x200#10
          corrected := if headerCorrected r.link then min 255 (q.corrected + 1) else q.corrected })))
    ∧ (∀ (i : Instr) (s : State) (r : RequestFrame), requestOf i = some r → i.wellFormed = true → s.hears r.link →
    (¬ r.sumGood s → exec i s = .next ((s.accepted r.link).replied r.link .checksum))
    ∧ (r.sumGood s → r.form = false → exec i s = .next ((s.accepted r.link).replied r.link .badRequest))
    ∧ (r.sumGood s → r.form = true → permitted r.kind r.link.port = false →
      exec i s = .next ((s.accepted r.link).replied r.link .notPermitted)))

/-- Steps 2 and 6 of R159, and the uncorrectable outcomes of R156. Where the rules leave it open it follows the model's
choice or inference: assumptions 13, 38 and 45. -/
def Obligations.FramesThatReachNoBlock : Prop :=
  ((∀ (s : State) (k : Link) (params : BitVec 16), s.mode = .run →
      ((s.port k.port).discarding = true →
        exec (.idleFrame k params) s = .next (s.updPort k.port fun q => { q with selected := true }))
      ∧ ((s.port k.port).discarding = false → exec (.idleFrame k params) s = .next (s.updPort k.port fun q =>
        { q with
          selected := true
          corrected := if headerCorrected k then min 255 (q.corrected + 1) else q.corrected })))
    ∧ ∀ (s : State) (f : LongFrame) (kind : BitVec 6) (params : BitVec 16) (payload : List Byte),
      (Instr.unassignedKindFrame f kind params payload).wellFormed = true → s.hears f.link →
      (32 ≤ kind.toNat → f.sum = checksum payload ∨ (f.sum = 0 ∧ sumRequired s.settings f.link.port = false)) →
      exec (.unassignedKindFrame f kind params payload) s = .next ((s.accepted f.link).replied f.link .badRequest))
    ∧ (∀ (s : State) (p : PortId) (h : BitVec 24) (c : Byte), (Instr.headerError p h c).wellFormed = true → s.mode = .run →
    ((s.port p).discarding = true →
      exec (.headerError p h c) s = .next (s.updPort p fun q => { q with selected := true }))
    ∧ ((s.port p).discarding = false → exec (.headerError p h c) s = .next (s.updPort p fun q =>
      { q with
        selected := true
        corrected := match checkHeader h c with | .stands _ true => min 255 (q.corrected + 1) | _ => q.corrected
        headerErrors := min 255 (q.headerErrors + 1), discarding := true, flags := q.flags ||| 0x100#10 })))

/-- Truncated frames (R158), with the header check completed on the first four bytes (R156). Where the rules leave it open
it follows the model's choice or inference: assumptions 32 and 45. -/
def Obligations.SelectReleasedDropsACutFrame : Prop :=
  (∀ (s : State) (p : PortId) (cut : List Byte), (Instr.selectReleased p cut).wellFormed = true → s.mode = .run →
    ((s.port p).discarding = true →
      exec (.selectReleased p cut) s = .next (s.updPort p fun q => { q with selected := false, discarding := false }))
    ∧ ((s.port p).discarding = false → cut = [] →
      exec (.selectReleased p cut) s = .next (s.updPort p fun q => { q with selected := false }))
    ∧ ∀ (b : Byte) (rest : List Byte), (s.port p).discarding = false → cut = b :: rest → rest.length < 3 →
      exec (.selectReleased p cut) s = .next (s.updPort p fun q =>
        { q with selected := false, flags := if b.toNat % 64 = 0 then q.flags else q.flags ||| 0x100#10 }))
    ∧ (∀ (s : State) (p : PortId) (cut : List Byte) (g : BitVec 24) (corrected : Bool),
    (Instr.selectReleased p cut).wellFormed = true → s.mode = .run → (s.port p).discarding = false → 4 ≤ cut.length →
    checkHeader (BitVec.ofNat 24 (ofLeBytes (cut.take 3))) (cut.getD 3 0) = .stands g corrected →
    exec (.selectReleased p cut) s = .next (s.updPort p fun q =>
      { q with
        selected := false
        corrected := if corrected then min 255 (q.corrected + 1) else q.corrected
        flags := q.flags ||| 0x100#10 }))

/-- The outbound queue of R161 (a restart that comes due by the reply: RestartIsPendingUntilDue), and the IDLE frame of R153
and R154 on an empty one. Where the rules leave it open it follows the model's choice or inference: assumptions 15 and 45. -/
def Obligations.ReplyClockedOutFreesItsTag : Prop :=
  ∀ (s : State) (p : PortId), s.mode = .run →
    ((s.port p).queue = [] → exec (.replyClockedOut p) s = .next (s.updPort p fun u =>
      { u with selected := true, lastOut := [0, 0, 0, checkByte 0] }))
    ∧ ∀ (q : Reply) (rest : List Reply), (s.port p).queue = q :: rest →
      (∀ r, s.restart = some r → ¬ (p = .backhaul ∧ q.tag = r.tag)) →
      exec (.replyClockedOut p) s = .next (s.updPort p fun u =>
        { u with
          selected := true, queue := rest, tags := u.tags &&& ~~~(BitVec.ofNat 4 (2 ^ q.tag.toNat))
          lastOut := replyFrame q })

/-- R171, in the layout of chapter 10.4. -/
def Obligations.NoticeReadReportsThePort : Prop :=
  ∀ (s : State) (k : Link), s.hears k →
    let q := (s.accepted k).port k.port
    let derived : BitVec 10 := if q.dockFlags &&& ~~~q.dockMasks = 0 then 0 else 1
    exec (.noticeRead k 0) s = .next ((s.accepted k).replied k .ok (some
      (leBytes 2 ((q.flags &&& 0x3FE) ||| derived).toNat ++ leBytes 8 q.dockFlags.toNat ++ leBytes 2 q.masks.toNat
        ++ leBytes 8 q.dockMasks.toNat
        ++ [BitVec.ofNat 8 q.corrected, BitVec.ofNat 8 q.headerErrors, q.tags.setWidth 8])))

/-- R170, and R172 with the conditions of R109 and R168. Where the rules leave it open it follows the model's choice or
inference: assumption 27. -/
def Obligations.NoticeMaskAndClear : Prop :=
  (∀ (s : State) (f : LongFrame) (flags : BitVec 16) (docks : BitVec 64),
    s.gets f (.noticeMask f flags docks) → flags.toNat < 1024 →
    exec (.noticeMask f flags docks) s = .next (((s.accepted f.link).updPort f.link.port fun q =>
      { q with masks := flags.setWidth 10, dockMasks := docks }).replied f.link .ok
        (some (leBytes 2 flags.toNat ++ leBytes 8 docks.toNat))))
    ∧ (∀ (s : State) (f : LongFrame) (flags : BitVec 16) (docks : BitVec 64) (counters : Byte),
    s.gets f (.noticeClear f flags docks counters) → flags.toNat < 1024 → counters.toNat ≤ 1 →
    ∃ q : Port, exec (.noticeClear f flags docks counters) s = .next (((s.accepted f.link).updPort f.link.port fun _ =>
          q).replied f.link .ok (some (leBytes 2 q.readFlags.toNat ++ leBytes 8 q.dockFlags.toNat
            ++ [BitVec.ofNat 8 q.corrected, BitVec.ofNat 8 q.headerErrors])))
      ∧ (let p := (s.accepted f.link).port f.link.port
        let held := s.journal.records.length + s.journal.reserved
        { q with flags := p.flags, dockFlags := p.dockFlags, corrected := p.corrected, headerErrors := p.headerErrors } = p
        ∧ q.dockFlags = p.dockFlags &&& ~~~docks
        ∧ (q.corrected = if counters = 1 then 0 else p.corrected)
        ∧ (q.headerErrors = if counters = 1 then 0 else p.headerErrors)
        ∧ ∀ b : Nat, b < 10 → q.flags.getLsbD b =
          if flags.getLsbD b then
            (b = 1 ∧ 192 ≤ held) ∨ (b = 2 ∧ 256 ≤ held) ∨ (b = 7 ∧ s.clock = none)
          else p.flags.getLsbD b))

/-- R165 with the codes of R189 (tables 0-3 are DOCKS, MAP, TARIFFS, CARDS; step modes 0-2 NONE, ON_READ_AND_WRITE,
ON_WRITE_ONLY), and R166: indexes 0-63 stand for docks 1-64 and 0-7 for plans 0-7; the entries are laid out as chapter
10.5 gives. -/
def Obligations.CursorSetAndRead : Prop :=
  (∀ (s : State) (k : Link) (index : BitVec 9) (table mode : BitVec 2) (rest : BitVec 3), s.hears k →
    let t : CursorTable := match table.toNat with | 0 => .docks | 1 => .map | 2 => .tariffs | _ => .cards
    let m : StepMode := match mode.toNat with | 0 => .none | 1 => .onReadAndWrite | _ => .onWriteOnly
    let entries : Nat := match table.toNat with | 0 => 64 | 1 => 64 | 2 => 8 | _ => 512
    if rest = 0 ∧ mode.toNat ≤ 2 ∧ index.toNat < entries then
      exec (.cursorSet k index table mode rest) s = .next (((s.accepted k).updPort k.port fun q =>
        { q with cursor := { table := t, index := index.toNat, mode := m } }).replied k .ok)
    else exec (.cursorSet k index table mode rest) s = .next ((s.accepted k).replied k .badRequest))
    ∧ (∀ (s : State) (k : Link), s.hears k →
    let c := (s.port k.port).cursor
    let entry : Option (List Byte) := match c.table with
      | .docks => if h : c.index < 64 then some (dockBytes s ⟨c.index, h⟩) else none
      | .map => if h : c.index < 64 then some (match s.map.get ⟨c.index, h⟩ with
        | some a => [1, BitVec.ofNat 8 a]
        | none => [0, 0]) else none
      | .tariffs => if h : c.index < 8 then some (tariffBytes (s.tariffs.get ⟨c.index, h⟩)) else none
      | .cards => (s.cards[c.index]?).map (cardBytes s)
    exec (.cursorRead k 0) s = .next (match entry with
      | none => (s.accepted k).replied k .range (some (leBytes 2 c.index))
      | some bytes => (if c.mode = .onReadAndWrite then
            (s.accepted k).updPort k.port fun q => { q with cursor := { c with index := c.index + 1 } }
          else s.accepted k).replied k .ok (some (leBytes 2 c.index ++ bytes))))

/-- R58: entries are found by serial, inserted at the place their serial takes, and removed with the others closing up;
the first number after it, cyclically, that is not carried (R59, R136). -/
def Obligations.CardTableAndNumbers : Prop :=
  (∀ (s : State) (c : Card), s.cards.Pairwise (fun a b => a.serial.toNat < b.serial.toNat) →
    (s.putCard c).cards.Pairwise (fun a b => a.serial.toNat < b.serial.toNat)
    ∧ (∀ x : Serial, findCard (s.putCard c) x = if x = c.serial then some c else findCard s x)
    ∧ ((s.putCard c).cards.length = if (findCard s c.serial).isSome then s.cards.length else s.cards.length + 1)
    ∧ (s.dropCard c.serial).cards.Pairwise (fun a b => a.serial.toNat < b.serial.toNat)
    ∧ ∀ x : Serial, findCard (s.dropCard c.serial) x = if x = c.serial then none else findCard s x)
    ∧ (∀ (used : List Nat) (n : Nat), used.length < 65535 → 1 ≤ n → n ≤ 65535 →
    ∃ i : Nat, firstFree (fun x => used.contains x) (used.length + 1) n = (n - 1 + i) % 65535 + 1
      ∧ (n - 1 + i) % 65535 + 1 ∉ used ∧ ∀ j : Nat, j < i → (n - 1 + j) % 65535 + 1 ∈ used)

/-- The checks of R61, in order, and its creation, and the table of R62; codes outside the assigned ones are refused
before (RequestStepsBeforeTheBlock). -/
def Obligations.CardPutCreatesOrUpdates : Prop :=
  (∀ (s : State) (f : LongFrame) (r : CardPut) (st : CardStatus), s.gets f (.cardPut f r) → f.link.port = .backhaul →
    cardStatusOf r.status = some st → r.expiryPresent.toNat ≤ 1 → r.kind.toNat ≤ 2 →
    let bad := r.member = 0 ∨ r.kind = 1 ∨ (r.kind = 0 ∧ 8 ≤ r.plan.toNat)
    let expiry := if r.expiryPresent = 1 then some r.expiry.toNat else none
    let new (body : CardBody) : Card := { serial := r.serial, body, status := st, trips := 0, expiry, lastUse := none }
    (bad → exec (.cardPut f r) s = .next ((s.accepted f.link).replied f.link .badRequest))
    ∧ (¬ bad → ∀ c, findCard s r.serial = some c → c.isGuest = true →
      exec (.cardPut f r) s = .next ((s.accepted f.link).replied f.link .duplicate))
    ∧ (¬ bad → findCard s r.serial = none → 512 ≤ s.cards.length →
      exec (.cardPut f r) s = .next ((s.accepted f.link).replied f.link .tableFull))
    ∧ (¬ bad → findCard s r.serial = none → s.cards.length < 512 → r.kind = 2 →
      exec (.cardPut f r) s = .next (((s.accepted f.link).putCard (new (.staff r.member.toNat))).replied f.link .ok))
    ∧ ∀ p : Fin 8, ¬ bad → findCard s r.serial = none → s.cards.length < 512 → r.kind = 0 → r.plan.toNat = p.val →
      let b := max (-100000) (min 10000000 r.balance.toInt)
      exec (.cardPut f r) s = .next (((s.accepted f.link).putCard (new (.member r.member.toNat p b none))).replied f.link
        (if b = r.balance.toInt then .ok else .clamped)))
    ∧ (∀ (s : State) (f : LongFrame) (r : CardPut) (st : CardStatus) (c : Card), s.gets f (.cardPut f r) →
    f.link.port = .backhaul → cardStatusOf r.status = some st → r.expiryPresent.toNat ≤ 1 → r.member ≠ 0 →
    findCard s r.serial = some c →
    let expiry := if r.expiryPresent = 1 then some r.expiry.toNat else none
    (r.kind = 2 → c.isGuest = false → exec (.cardPut f r) s = .next (((s.accepted f.link).putCard
      { c with body := .staff r.member.toNat, status := st, expiry }).replied f.link .ok))
    ∧ ∀ p : Fin 8, r.kind = 0 → r.plan.toNat = p.val →
      (∀ n q b l, c.body = .member n q b l → exec (.cardPut f r) s = .next (((s.accepted f.link).putCard
        { c with body := .member r.member.toNat p b l, status := st, expiry }).replied f.link .ok))
      ∧ ∀ n, c.body = .staff n →
        let b := max (-100000) (min 10000000 r.balance.toInt)
        exec (.cardPut f r) s = .next (((s.accepted f.link).putCard
          { c with body := .member r.member.toNat p b none, status := st, expiry }).replied f.link
            (if b = r.balance.toInt then .ok else .clamped)))

/-- R63, whole: the delta applies to the value standing when the request is taken. -/
def Obligations.CardCreditAddsItsDelta : Prop :=
  ∀ (s : State) (f : LongFrame) (serial : Serial) (delta : BitVec 32), s.gets f (.cardCredit f serial delta) →
    (f.link.port ≠ .backhaul →
      exec (.cardCredit f serial delta) s = .next ((s.accepted f.link).replied f.link .notPermitted))
    ∧ (f.link.port = .backhaul → findCard s serial = none →
      exec (.cardCredit f serial delta) s = .next ((s.accepted f.link).replied f.link .notFound))
    ∧ ∀ c, f.link.port = .backhaul → findCard s serial = some c → match c.body with
      | .staff _ => exec (.cardCredit f serial delta) s = .next ((s.accepted f.link).replied f.link .badRequest)
      | .member n p b l =>
        let v := max (-100000) (min 10000000 (b + delta.toInt))
        exec (.cardCredit f serial delta) s = .next (((s.accepted f.link).putCard
          { c with body := .member n p v l }).replied f.link (if v = b + delta.toInt then .ok else .clamped)
            (some (leBytes 4 (BitVec.ofInt 32 v).toNat)))
      | .guest n p d l =>
        let v := max 0 (min 50000 (d + delta.toInt))
        exec (.cardCredit f serial delta) s = .next (((s.accepted f.link).putCard
          { c with body := .guest n p v l }).replied f.link (if v = d + delta.toInt then .ok else .clamped)
            (some (leBytes 4 (BitVec.ofInt 32 v).toNat)))

/-- R64 and R65 with the removal of R69; R67 and the short form of R189, the entry laid out as chapter 10.5 gives. -/
def Obligations.CardFieldsAreSetAndRead : Prop :=
  (∀ (s : State) (f : LongFrame) (serial : Serial), f.link.port = .backhaul →
    (∀ (status : Byte) (st : CardStatus), s.gets f (.cardStatus f serial status) → cardStatusOf status = some st →
      (findCard s serial = none →
        exec (.cardStatus f serial status) s = .next ((s.accepted f.link).replied f.link .notFound))
      ∧ ∀ c, findCard s serial = some c → exec (.cardStatus f serial status) s = .next
        (((s.accepted f.link).putCard { c with status := st }).replied f.link .ok))
    ∧ ∀ count : Byte, s.gets f (.cardTrips f serial count) →
      (findCard s serial = none →
        exec (.cardTrips f serial count) s = .next ((s.accepted f.link).replied f.link .notFound))
      ∧ ∀ c, findCard s serial = some c →
        let reply : Status := if count.toNat ≤ 7 then .ok else .clamped
        exec (.cardTrips f serial count) s = .next
          (if c.isGuest = true ∧ count = 0 ∧ cardExpired s c = true then
            ((s.accepted f.link).dropCard serial).replied f.link reply
          else ((s.accepted f.link).putCard { c with trips := min 7 count.toNat }).replied f.link reply))
    ∧ ((∀ (s : State) (f : LongFrame) (serial : Serial), s.gets f (.cardQuery f serial) → f.link.port ≠ .service →
      exec (.cardQuery f serial) s = .next (match findCard s serial with
        | none => (s.accepted f.link).replied f.link .notFound
        | some c => (s.accepted f.link).replied f.link .ok (some (cardBytes s c))))
    ∧ ∀ (s : State) (k : Link) (position : BitVec 16), s.hears k → k.port ≠ .service →
      exec (.cardQueryShortForm k position) s = .next (match s.cards[position.toNat]? with
        | none => (s.accepted k).replied k .range
        | some c => (s.accepted k).replied k .ok (some (cardBytes s c))))

/-- R66, whole. -/
def Obligations.CardDropRemovesTheEntry : Prop :=
  ∀ (s : State) (f : LongFrame) (serial : Serial), s.gets f (.cardDrop f serial) →
    (f.link.port ≠ .backhaul → exec (.cardDrop f serial) s = .next ((s.accepted f.link).replied f.link .notPermitted))
    ∧ (f.link.port = .backhaul → findCard s serial = none →
      exec (.cardDrop f serial) s = .next ((s.accepted f.link).replied f.link .notFound))
    ∧ (f.link.port = .backhaul → (findCard s serial).isSome = true →
      exec (.cardDrop f serial) s = .next ({ s.accepted f.link with
        cards := s.cards.filter fun c => c.serial ≠ serial }.replied f.link .ok))

/-- R68 with the number of R59 (CardTableAndNumbers), and R69. Where the rules leave it open it follows the model's choice
or inference: assumption 5. -/
def Obligations.GuestPassIsIssuedAndExpires : Prop :=
  (∀ (s : State) (f : LongFrame) (serial : Serial) (plan : Byte) (deposit : BitVec 32) (validity : BitVec 16),
    s.gets f (.guestIssue f serial plan deposit validity) → f.link.port = .kiosk →
    let bad := 8 ≤ plan.toNat ∨ validity.toNat = 0 ∨ 1440 < validity.toNat
    let refused (st : Status) : Prop :=
      exec (.guestIssue f serial plan deposit validity) s = .next ((s.accepted f.link).replied f.link st)
    (bad → refused .badRequest)
    ∧ (¬ bad → s.clock = none → refused .notCommissioned)
    ∧ (¬ bad → s.clock.isSome = true → (findCard s serial).isSome = true → refused .duplicate)
    ∧ (¬ bad → s.clock.isSome = true → findCard s serial = none → 512 ≤ s.cards.length → refused .tableFull)
    ∧ ∀ (p : Fin 8) (now : Nat), plan.toNat = p.val → ¬ bad → s.clock = some now → findCard s serial = none →
      s.cards.length < 512 →
      let n := firstFree (guestNumberTaken s.cards) (s.cards.length + 1) s.nextGuest
      let d := max 0 (min 50000 deposit.toInt)
      let e := min 4294967295 (now + 60 * validity.toNat)
      exec (.guestIssue f serial plan deposit validity) s = .next (({ s.accepted f.link with
          nextGuest := if n < 65535 then n + 1 else 1 }.putCard
            { serial, body := .guest n p d none, status := .active, trips := 0, expiry := some e, lastUse := none }).replied
          f.link (if d = deposit.toInt then .ok else .clamped) (some (leBytes 2 n ++ leBytes 4 e))))
    ∧ (∀ (s : State) (serial : Serial), s.mode = .run →
    (∀ c, findCard s serial = some c → c.isGuest = true → c.trips = 0 → cardExpired s c = true →
      exec (.guestExpiry serial) s = .next { s with cards := s.cards.filter fun x => x.serial ≠ serial })
    ∧ ((∀ c, findCard s serial = some c → ¬ (c.isGuest = true ∧ c.trips = 0 ∧ cardExpired s c = true)) →
      exec (.guestExpiry serial) s = .next s))

/-- Steps 8 to 10 of the decision (R73), the grant of R8, and the pick of R26. -/
def Obligations.RentalIsGrantedToACardThatMayRide : Prop :=
  ∀ (i : Instr) (s : State) (f : LongFrame) (serial : Serial) (c : Card) (plan : Fin 8) (clock : Nat) (d : DockNo),
    (i = .releaseDock f serial (BitVec.ofNat 8 (d.val + 1)) ∧ f.link.port ≠ .service
      ∨ i = .releaseAny f serial ∧ f.link.port = .kiosk ∧ FirstAvailable s d) →
    s.gets f i → MayRide s serial c plan → s.clock = some clock → Available (s.dock d) → RoomToReserve s →
    let stamp : Stamp :=
      { station := s.settings.stationNumber, dock := d.val + 1, start := clock, serial, guest := c.isGuest, plan
        trip := if s.tripSerial < 4294967295 then s.tripSerial + 1 else 1 }
    let side : Side := if f.link.port = .kiosk then .kiosk f.link.tag else .backhaul f.link.tag
    ∃ t, exec i s = .next t ∧ EndsAs (({ s.accepted f.link with
        tripSerial := stamp.trip
        journal := { s.journal with reserved := s.journal.reserved + 1 } }.putCard
          { c with lastUse := some clock }).updDock d fun k =>
            { k with
              custody := .releasing
              release := some { purpose := .rental stamp side, phase := .stamping, deadline := none, stopped := none
                                pendingMark := none, waiting := true }
              steps := putStep (.stamp stamp) k.steps }) t

/-- The order of R70, with the reasons of R25. -/
def Obligations.RentalIsRefusedAtTheFirstCheckThatFails : Prop :=
  ∀ (i : Instr) (s : State) (f : LongFrame) (serial : Serial) (dock : Option DockNo),
    ((∃ d : DockNo, dock = some d ∧ i = .releaseDock f serial (BitVec.ofNat 8 (d.val + 1)) ∧ f.link.port ≠ .service)
      ∨ dock = none ∧ i = .releaseAny f serial ∧ f.link.port = .kiosk) →
    s.gets f i →
    let refused (st : Status) (r : Option Reason) : Prop := exec i s = .next ((s.accepted f.link).replied f.link st none r)
    (¬ Commissioned s → refused .notCommissioned none)
    ∧ (Commissioned s → findCard s serial = none → refused .unknownCard none)
    ∧ ∀ c, Commissioned s → findCard s serial = some c →
      (c.isStaff = true → refused .denied none)
      ∧ ∀ (plan : Fin 8) (money : Int), c.riding = some (plan, money) →
        let t := s.tariffs.get plan
        let out := c.trips + rentalsInProgress s serial
        let low := money < t.minFunds ∨ (c.isGuest = true ∧ money = 0)
        (c.status = .denied → refused .denied none)
        ∧ (c.status = .suspended → refused .suspended none)
        ∧ (c.status = .active → cardExpired s c = true → refused .expired none)
        ∧ (c.status = .active → cardExpired s c = false → t.limit ≤ out → refused .limit none)
        ∧ (c.status = .active → cardExpired s c = false → out < t.limit → low → refused .lowBalance none)
        ∧ (MayRide s serial c plan →
          (∀ d r, dock = some d → FirstReason (s.dock d) r → refused .notAvailable (some r))
          ∧ (dock = none → (∀ d, ¬ Available (s.dock d)) → refused .notAvailable (some .noneFree))
          ∧ (∀ d, (dock = some d ∨ dock = none) → Available (s.dock d) → ¬ RoomToReserve s → refused .journalFull none))

/-- R81 with the ranges of R80, and R82 and R167 for the TARIFFS, DOCKS and CARDS tables. Where the rules leave it open it
follows the model's choice or inference: assumptions 33 and 44. -/
def Obligations.TariffWritesClampTheRecord : Prop :=
  (∀ (s : State) (f : LongFrame) (plan : Byte) (v : TariffWords), s.gets f (.tariffPut f plan v) → f.link.port = .backhaul →
    (8 ≤ plan.toNat → exec (.tariffPut f plan v) s = .next ((s.accepted f.link).replied f.link .badRequest))
    ∧ ∀ p : Fin 8, plan.toNat = p.val → exec (.tariffPut f plan v) s = .next ({ s.accepted f.link with
        tariffs := s.tariffs.set p.val (clampedTariff v) p.isLt }.replied f.link
          (if TariffInRange v then .ok else .clamped) (some (tariffBytes (clampedTariff v)))))
    ∧ (∀ (s : State) (f : LongFrame) (w : CursorEntry), s.gets f (.cursorWrite f w) → (Instr.cursorWrite f w).wellFormed = true →
    let c := (s.port f.link.port).cursor
    let refused (st : Status) : Prop := exec (.cursorWrite f w) s = .next ((s.accepted f.link).replied f.link st)
    (c.table = .docks ∨ c.table = .cards → refused .badRequest)
    ∧ (c.table = .tariffs → f.link.port ≠ .backhaul → refused .notPermitted)
    ∧ (c.table = .tariffs → f.link.port = .backhaul → 8 ≤ c.index → refused .range)
    ∧ (c.table = .tariffs → f.link.port = .backhaul → c.index < 8 → (∀ v, w ≠ .tariff v) → refused .badRequest)
    ∧ ∀ (v : TariffWords) (p : Fin 8), c.table = .tariffs → f.link.port = .backhaul → c.index = p.val → w = .tariff v →
      exec (.cursorWrite f w) s = .next (({ s.accepted f.link with
          tariffs := s.tariffs.set p.val (clampedTariff v) p.isLt }.updPort f.link.port fun q =>
            { q with cursor := if c.mode = StepMode.none then c else { c with index := c.index + 1 } }).replied f.link
          (if TariffInRange v then .ok else .clamped) (some (tariffBytes (clampedTariff v)))))

/-- Stages 1 and 3 to 9 (R86 to R89); the gross and its cap are those of R87 and R88, whole. -/
def Obligations.RideChargeFollowsItsStages : Prop :=
  ∀ (t : Tariff) (start arrival : Nat) (lowFill : Bool), t.Ranged →
    let c := rideCharge t start arrival lowFill
    let D := c.time.seconds
    let m := (D + 59) / 60
    let b := if m ≤ t.free then 0 else m - t.free
    let g := (b + t.block - 1) / t.block * t.price
    let n := if D = 0 then 1 else (D + 86399) / 86400
    (arrival < start → c.time = ⟨0, true, false⟩)
    ∧ (start ≤ arrival → arrival ≤ start + 259200 → c.time = ⟨arrival - start, false, false⟩)
    ∧ (start + 259200 < arrival → c.time = ⟨259200, false, true⟩)
    ∧ (m ≤ 4320 ∧ (D = 0 → m = 0) ∧ (1 ≤ D → D ≤ 60 → m = 1) ∧ g ≤ 21600000)
    ∧ (t.cap = 0 → c.gross = g ∧ c.capped = false)
    ∧ (0 < t.cap → g ≤ n * t.cap → c.gross = g ∧ c.capped = false)
    ∧ (0 < t.cap → n * t.cap < g → c.gross = n * t.cap ∧ c.capped = true)
    ∧ (1 ≤ n ∧ n ≤ 3 ∧ (0 < t.cap → c.gross ≤ 300000))
    ∧ (lowFill = true → 0 < t.credit → c.credit = min t.credit c.gross ∧ c.creditFlag = true)
    ∧ (lowFill = false ∨ t.credit = 0 → c.credit = 0 ∧ c.creditFlag = false)
    ∧ c.net = c.gross - c.credit ∧ c.credit ≤ c.gross

/-- R107, R108, R104 and R105; the summary and the records are laid out as chapter 10.5 gives. Where the rules leave it
open it follows the model's choice or inference: assumptions 11, 17, 19 and 42. -/
def Obligations.JournalIsReadTakenAndDrained : Prop :=
  ((∀ (s : State) (f : LongFrame) (n : BitVec 32), s.gets f (.journalRead f n) → f.link.port ≠ .service →
      ((∀ r ∈ s.journal.records, r.number ≠ n.toNat) → exec (.journalRead f n) s =
        .next ((s.accepted f.link).replied f.link .range (some (journalSummary s ++ [0]))))
      ∧ ∀ (before after : List JournalRecord) (r : JournalRecord), s.journal.records = before ++ r :: after →
        r.number = n.toNat → (∀ q ∈ before, q.number ≠ n.toNat) →
        let rs := (r :: after).take 4
        exec (.journalRead f n) s = .next ((s.accepted f.link).replied f.link .ok
          (some (journalSummary s ++ [BitVec.ofNat 8 rs.length] ++ rs.flatMap journalBytes))))
    ∧ ∀ (s : State) (f : LongFrame) (n : BitVec 32), s.gets f (.journalTake f n) → f.link.port = .backhaul →
      ((∀ r ∈ s.journal.records, r.number ≠ n.toNat) →
        exec (.journalTake f n) s = .next ((s.accepted f.link).replied f.link .range))
      ∧ ((∃ r ∈ s.journal.records, r.number = n.toNat) →
        let left := s.journal.records.filter fun r => n.toNat < r.number
        let u := { s.accepted f.link with journal := { s.journal with records := left } }.drain
        ∃ t, exec (.journalTake f n) s = .next (t.replied f.link .ok
            (some (leBytes 2 (s.journal.records.length - left.length) ++ journalSummary u))) ∧ EndsAs u t))
    ∧ (∀ s : State,
    (∃ added, s.drain.journal.records = s.journal.records ++ added)
    ∧ s.drain.journal.reserved = s.journal.reserved
    ∧ (s.journal.hasRoom = false → s.drain = s)
    ∧ ((∃ d e, (s.drain.dock d).settle = some e ∧ e.time.isUptime = false) → s.drain.journal.hasRoom = false)
    ∧ (∀ d e, (s.dock d).settle = some e → e.time.isUptime = true → (s.drain.dock d).settle = some e)
    ∧ ∀ d, (s.dock d).settle = none → s.drain.dock d = s.dock d)

/-- R113, with the lines of R112 (the reply is laid out as chapter 10.4 gives). Where the rules leave it open it follows
the model's choice or inference: assumptions 9 and 11. -/
def Obligations.ManifestStageCreatesAStagedManifest : Prop :=
  ∀ (s : State) (f : LongFrame) (id : BitVec 16) (validity : Byte) (lines : List LineWords),
    s.gets f (.manifestStage f id validity lines) → (Instr.manifestStage f id validity lines).wellFormed = true →
    f.link.port = .backhaul →
    let bad := (∀ ls, ¬ LinesAre lines ls) ∨ id = 0 ∨ validity.toNat < 5 ∨ 240 < validity.toNat
    let refused (st : Status) : Prop :=
      exec (.manifestStage f id validity lines) s = .next ((s.accepted f.link).replied f.link st)
    (bad → refused .badRequest)
    ∧ (¬ bad → s.clock = none → refused .notCommissioned)
    ∧ (¬ bad → s.clock.isSome = true → (∃ m x, s.manifests.get m = some x ∧ x.id = id.toNat) → refused .duplicate)
    ∧ (¬ bad → s.clock.isSome = true → (∀ m, ∃ x, s.manifests.get m = some x ∧ x.id ≠ id.toNat) → refused .noSlot)
    ∧ ∀ (ls : List MLine) (m : SlotNo) (clock : Nat), ¬ bad → LinesAre lines ls → s.clock = some clock →
      (∀ n x, s.manifests.get n = some x → x.id ≠ id.toNat) → s.manifests.get m = none →
      (m = 1 → s.manifests.get 0 ≠ none) →
      ∃ (til free : Nat) (t : State),
        (if clock + 60 * validity.toNat ≤ 4294967295 then til = clock + 60 * validity.toNat ∧ free = s.freeUsed
          else til ≤ 4294967295 ∧ free = s.freeUsed + 1)
        ∧ exec (.manifestStage f id validity lines) s = .next (t.replied f.link .ok (some (openedBytes t m)))
        ∧ EndsAs ({ s.accepted f.link with
            freeUsed := free
            manifests := s.manifests.set m.val (some
              { id := id.toNat, state := .staged, origin := .backhaul, staff := none, stagedUntil := some til
                idleAt := none, reason := none, waiting := false, lines := ls }) m.isLt }.noticeAll 6) t

/-- The checks of R114 and the effects of R115. Where the rules leave it open it follows the model's choice or inference:
assumptions 10 and 11. -/
def Obligations.ManifestOpenClaimsOrCreates : Prop :=
  ∀ (s : State) (f : LongFrame) (staff : Serial) (id : BitVec 16) (adopt : Byte) (lines : List LineWords),
    let i := Instr.manifestOpen f staff id adopt lines
    s.gets f i → i.wellFormed = true → f.link.port = .service → adopt.toNat ≤ 1 → lineCodesOk lines = true →
    let refused (st : Status) : Prop := exec i s = .next ((s.accepted f.link).replied f.link st)
    let crew := ∃ c, findCard s staff = some c ∧ c.isStaff = true ∧ c.status = .active ∧ cardExpired s c = false
    let inState (m : SlotNo) (st : MState) : Prop := ∃ x, s.manifests.get m = some x ∧ x.state = st
    let named (m : SlotNo) : Prop := ∃ x, s.manifests.get m = some x ∧ x.id = id.toNat ∧ id ≠ 0
    let distinct := ∀ x y, s.manifests.get 0 = some x → s.manifests.get 1 = some y → x.id ≠ y.id
    let wrong := lines ≠ [] ∧ ∀ ls, ¬ LinesAre lines ls
    (wrong → refused .badRequest)
    ∧ (¬ wrong → ¬ crew → refused .notStaff)
    ∧ (¬ wrong → crew → (∃ m, inState m .active) → refused .busy)
    ∧ (¬ wrong → crew → (∀ m, ¬ inState m .active) → distinct →
      (∀ m, named m → inState m .closing → refused .duplicate)
      ∧ (∀ m x, s.manifests.get m = some x → x.state = .staged →
        (named m ∨ ((∀ n, ¬ named n) ∧ adopt = 1 ∧ ∀ n, n ≠ m → ¬ inState n .staged)) →
        ∃ t, exec i s = .next (t.replied f.link .ok (some (openedBytes t m)))
          ∧ EndsAs ({ s.accepted f.link with
              manifests := s.manifests.set m.val (some
                { x with
                  state := .active, staff := some staff, stagedUntil := none
                  idleAt := some (s.uptime + s.settings.idleTimeout) }) m.isLt }.noticeAll 6) t)
      ∧ ((∀ n, ¬ named n) → (adopt = 0 ∨ (∀ n, ¬ inState n .staged) ∨ ∀ n, inState n .staged) →
        (lines = [] ∨ id = 0 → refused .badRequest)
        ∧ (lines ≠ [] → id ≠ 0 → (∀ n, s.manifests.get n ≠ none) → refused .noSlot)
        ∧ ∀ (ls : List MLine) (m : SlotNo), LinesAre lines ls → id ≠ 0 → s.manifests.get m = none →
          (m = 1 → s.manifests.get 0 ≠ none) →
          ∃ t, exec i s = .next (t.replied f.link .ok (some (openedBytes t m)))
            ∧ EndsAs ({ s.accepted f.link with
                manifests := s.manifests.set m.val (some
                  { id := id.toNat, state := .active, origin := .service, staff := some staff, stagedUntil := none
                    idleAt := some (s.uptime + s.settings.idleTimeout), reason := none, waiting := false
                    lines := ls }) m.isLt }.noticeAll 6) t))

/-- R121 with the van grant of R8; the granted docks are the first of those that are ready. Where the rules leave it open
it follows the model's choice or inference: assumptions 10 and 11. -/
def Obligations.ManifestReleaseGrantsHeldDocks : Prop :=
  ∀ (s : State) (k : Link) (line count : Byte), s.hears k → k.port = .service →
    let refused (u : State) (st : Status) (r : Option Reason) : Prop :=
      exec (.manifestRelease k line count) s = .next (u.replied k st none r)
    let good := 1 ≤ count.toNat ∧ count.toNat ≤ 4
    (¬ good → refused (s.accepted k) .badRequest none)
    ∧ (good → (∀ m x, s.manifests.get m = some x → x.state ≠ .active) → refused (s.accepted k) .notFound none)
    ∧ ∀ (m : SlotNo) (x : Manifest), good → s.manifests.get m = some x → x.state = .active →
      (∀ n y, n ≠ m → s.manifests.get n = some y → y.state ≠ .active) →
      let x' := { x with idleAt := some (s.uptime + s.settings.idleTimeout) }
      let u := { s.accepted k with manifests := s.manifests.set m.val (some x') m.isLt }
      let loads := ∃ l, x.lines[line.toNat]? = some l ∧ l.action = .load
      let ready := allDocks.filter fun d =>
        decide ((s.dock d).hold = some ⟨m, line.toNat⟩ ∧ (s.dock d).custody = .docked ∧ (s.dock d).online = true)
      let opened := vanReleasesOpen s.docks
      let room := min (192 - (s.journal.records.length + s.journal.reserved))
        (4294967296 - s.journal.next - s.journal.reserved)
      (¬ loads → refused u .badRequest none)
      ∧ (loads → 4 ≤ opened → refused u .busy none)
      ∧ (loads → opened < 4 → ready = [] → refused u .notAvailable (some .noneFree))
      ∧ (loads → opened < 4 → ready ≠ [] → room = 0 → refused u .busy none)
      ∧ (loads → opened < 4 → ready ≠ [] → 0 < room →
        let granted := ready.take (min (min count.toNat (4 - opened)) room)
        ∃ t v, exec (.manifestRelease k line count) s = .next t ∧ EndsAs v t
          ∧ { v with docks := u.docks } = { u with
            journal := { s.journal with reserved := s.journal.reserved + granted.length }
            vanWaits := s.vanWaits ++ [{ tag := k.tag, entries := granted.map fun d => ⟨d, none⟩ }] }
          ∧ ∀ d, v.dock d = if d ∈ granted then { s.dock d with
              custody := .releasing
              release := some { purpose := .van m line.toNat false, phase := .unlocking, deadline := none, stopped := none
                                pendingMark := none, waiting := true }
              steps := putStep (.unlock s.settings.vanWindow) (s.dock d).steps } else s.dock d)

/-- R127 to R131; what becomes of the slot at the end of the step is `Closed`. Where the rules leave it open it follows
the model's choice or inference: assumptions 5 and 31. -/
def Obligations.ManifestEntersClosing : Prop :=
  ∀ s : State,
    (∀ (k : Link) (id : BitVec 16) (m : SlotNo) (x : Manifest), s.hears k → id ≠ 0 → s.manifests.get m = some x →
      x.id = id.toNat → (∀ n y, n ≠ m → s.manifests.get n = some y → y.id ≠ id.toNat) →
      (k.port = .service → x.state = .active → ∃ t, exec (.manifestClose k id) s =
        .next (t.replied k .ok (some (closedBytes t m .done))) ∧ Closed s t m x .done)
      ∧ (k.port = .service → x.state ≠ .active →
        exec (.manifestClose k id) s = .next ((s.accepted k).replied k .notFound))
      ∧ (k.port = .backhaul → x.state = .staged → ∃ t, exec (.manifestClose k id) s =
        .next (t.replied k .ok (some (closedBytes t m .cancelled))) ∧ Closed s t m x .cancelled)
      ∧ (k.port = .backhaul → x.state = .active →
        exec (.manifestClose k id) s = .next ((s.accepted k).replied k .busy))
      ∧ ∀ r, k.port = .backhaul → x.state = .closing → x.reason = some r →
        exec (.manifestClose k id) s = .next ((s.accepted k).replied k .ok (some (closedBytes s m r))))
    ∧ (∀ (k : Link) (id : BitVec 16), s.hears k → k.port ≠ .kiosk → id ≠ 0 →
      (∀ m x, s.manifests.get m = some x → x.id ≠ id.toNat) →
      exec (.manifestClose k id) s = .next ((s.accepted k).replied k .notFound))
    ∧ (∀ k : Link, s.hears k → k.port ≠ .kiosk →
      exec (.manifestClose k 0) s = .next ((s.accepted k).replied k .badRequest))
    ∧ ∀ (m : SlotNo) (x : Manifest), s.mode = .run → s.manifests.get m = some x →
      let idle := x.state = .active ∧ ∃ u, x.idleAt = some u ∧ u ≤ s.uptime
      let ended := x.state = .staged ∧ ∃ u c, x.stagedUntil = some u ∧ s.clock = some c ∧ u ≤ c
      (idle → ∃ t, exec (.idleDeadline m) s = .next t ∧ Closed s t m x .idle)
      ∧ (¬ idle → exec (.idleDeadline m) s = .next s)
      ∧ (ended → ∃ t, exec (.stagedExpiry m) s = .next t ∧ Closed s t m x .expired)
      ∧ (¬ ended → exec (.stagedExpiry m) s = .next s)

/-- R132, with the restart of R128; the slots are laid out as chapter 10.5 gives. That the reply shows the idle seconds after
the restart that the request itself makes is the model's choice (assumption 43). -/
def Obligations.ManifestQueryReadsTheSlots : Prop :=
  ∀ (s : State) (k : Link) (id : BitVec 16), s.hears k →
    let touched (m : SlotNo) (u : State) : State := if k.port = .service then u.updManifest m fun x =>
      if x.state = .active then { x with idleAt := some (s.uptime + s.settings.idleTimeout) } else x else u
    (id ≠ 0 → (∀ m x, s.manifests.get m = some x → x.id ≠ id.toNat) →
      exec (.manifestQuery k id) s = .next ((s.accepted k).replied k .notFound))
    ∧ (∀ (m : SlotNo) (x : Manifest), id ≠ 0 → s.manifests.get m = some x → x.id = id.toNat →
      (m = 1 → ∀ y, s.manifests.get 0 = some y → y.id ≠ id.toNat) →
      let u := touched m (s.accepted k)
      exec (.manifestQuery k id) s = .next (u.replied k .ok (some (slotBytes u m))))
    ∧ (id = 0 →
      let u := touched 1 (touched 0 (s.accepted k))
      exec (.manifestQuery k id) s = .next (u.replied k .ok (some (slotBytes u 0 ++ slotBytes u 1))))

/-- R122: outcomes are recorded as they come, and the last one makes the reply. -/
def Obligations.VanReplyFollowsTheLastOutcome : Prop :=
  ∀ (s : State) (d : DockNo) (o : VanOutcome) (before after : List VanRequest) (r : VanRequest),
    (∀ q ∈ before ++ after, ∀ e ∈ q.entries, e.dock ≠ d) → (∀ q ∈ before ++ after, ∃ e ∈ q.entries, e.outcome = none) →
    s.vanWaits = before ++ r :: after → (∃ e ∈ r.entries, e.dock = d ∧ e.outcome = none) →
    let entries := r.entries.map fun e => if e.dock = d ∧ e.outcome = none then { e with outcome := some o } else e
    ((∃ e ∈ entries, e.outcome = none) →
      s.vanOutcome d o = { s with vanWaits := before ++ { r with entries } :: after })
    ∧ ((∀ e ∈ entries, e.outcome ≠ none) → ∃ pairs : List (DockNo × VanOutcome),
      pairs.map (fun p => (⟨p.1, some p.2⟩ : VanEntry)) = entries
      ∧ s.vanOutcome d o = { s with vanWaits := before ++ after }.updPort .service fun q =>
        { q with queue := q.queue ++ [({ tag := r.tag, answer := { status := .ok, content := some (vanBytes pairs) } } : Reply)] })

/-- What R119 says of the end of a refill pass, R27 of the indicator, R29 of the dock change flags, and R109 and R144 of the
notices of a condition that the step has brought about, for the end of every step. Where the rules leave it open it follows the model's choice or inference: assumption 11. -/
def Obligations.StepEndServesLinesAndLamps : Prop :=
  ∀ before s : State,
    (∀ (m : SlotNo) (x : Manifest) (l : MLine), (conclude before s).manifests.get m = some x → x.state ≠ .closing →
      l ∈ x.lines → l.reserved + l.done < l.asked →
      ∀ d, match l.action with
        | .load => loadCandidate l.filter ((conclude before s).dock d) = false
        | .unload => unloadCandidate ((conclude before s).dock d) = false)
    ∧ (∀ d, ((conclude before s).dock d).online = true →
      ((conclude before s).dock d).lastPattern = some (pattern ((conclude before s).dock d)))
    ∧ (∀ (p : PortId) (d : DockNo), dockChanged (before.dock d) ((conclude before s).dock d) = true →
      ((conclude before s).port p).dockFlags.getLsbD d.val = true)
    ∧ ∀ p : PortId,
      let flag (u : State) (bit : Nat) : Bool := (u.port p).flags.getLsbD bit
      let used (u : State) : Nat := u.journal.records.length + u.journal.reserved
      let opens (u : State) : Nat := (u.faults.queue.filter fun r => r.sent = false).length
      let t := conclude before s
      (flag t 1 = true ↔ flag s 1 = true ∨ (192 ≤ used t ∧ used before < 192))
      ∧ (flag t 2 = true ↔ flag s 2 = true ∨ (256 ≤ used t ∧ used before < 256))
      ∧ (flag t 4 = true ↔ flag s 4 = true ∨ (32 ≤ opens t ∧ opens before < 32))

/-- Merging (R142), admission, eviction and discarding (R143), the number of R136 (CardTableAndNumbers), and the notices
of R144. -/
def Obligations.ReportMergesJoinsOrIsDiscarded : Prop :=
  ∀ (s : State) (r : Report),
    let same (x : FaultRecord) : Prop := x.sent = false ∧ x.dock = r.dock ∧ x.bike = r.bike ∧ x.code = r.code
    let joined (q : List FaultRecord) : State × Admission × Nat :=
      let n := firstFree (faultNumberTaken q) (q.length + 1) s.faults.next
      ({ s with faults := { s.faults with
            queue := q ++ [FaultRecord.mk n false r.source r.code (now s) r.dock r.bike r.reporter 1]
            next := if n < 65535 then n + 1 else 1 } }.noticeAll 3, .new, n)
    (∀ (before after : List FaultRecord) (x : FaultRecord), s.faults.queue = before ++ x :: after → same x →
      (∀ y ∈ before, ¬ same y) →
      s.takeReport r = ({ s with faults := { s.faults with
        queue := before ++ { x with repeats := min 15 (x.repeats + 1) } :: after } }, .merged, x.number))
    ∧ ((∀ x ∈ s.faults.queue, ¬ same x) →
      (s.faults.queue.length < 64 → s.takeReport r = joined s.faults.queue)
      ∧ (∀ (before after : List FaultRecord) (x : FaultRecord), 64 ≤ s.faults.queue.length →
        s.faults.queue = before ++ x :: after → x.sent = true → (∀ y ∈ before, y.sent = false) →
        s.takeReport r = joined (before ++ after))
      ∧ (64 ≤ s.faults.queue.length → (∀ x ∈ s.faults.queue, x.sent = false) →
        s.takeReport r = ({ s with faults := { s.faults with discarded := min 255 (s.faults.discarded + 1) } }.noticeAll 5,
          .discarded, 0)))

/-- R22, with R14 for a rental and R24 for a LOST dock. Where the rules leave it open it follows the model's choice or
inference: assumption 25. -/
def Obligations.MarkReachesItsDock : Prop :=
  ∀ (s : State) (d : DockNo) (m : Marking),
    let k := s.dock d
    let rental := (∃ r st side, k.release = some r ∧ r.purpose = .rental st side)
      ∨ k.release = none ∧ ∃ r st side, k.verifyCtx = some r ∧ r.purpose = .rental st side
    let after (q : Dock) : Prop := s.applyMark d m = { s with docks := s.docks.set d.val q d.isLt }
    (rental → after { k with
      release := k.release.map fun r => { r with pendingMark := some m }
      verifyCtx := k.verifyCtx.map fun r => { r with pendingMark := some m } })
    ∧ (¬ rental → k.bike = none → s.applyMark d m = s)
    ∧ ∀ n, ¬ rental → k.bike = some n →
      let fault : Option Nat := match m with
        | .mark code => some code
        | .clear => none
      let write : Cmd := match m with
        | .mark code => .mark code
        | .clear => .clearMark
      (n = 0 ∨ k.link = .lost → after { k with mark := fault })
      ∧ (n ≠ 0 → k.link = .online → (∀ c ∈ k.steps, (∀ x, c ≠ .mark x) ∧ c ≠ .clearMark) →
        after { k with mark := fault, steps := k.steps ++ [write] })
      ∧ ∀ (before rest : List Cmd) (c : Cmd), n ≠ 0 → k.link = .online → k.steps = before ++ c :: rest →
        ((∃ x, c = .mark x) ∨ c = .clearMark) →
        (∀ e ∈ before ++ rest, (∀ x, e ≠ .mark x) ∧ e ≠ .clearMark) →
        after { k with mark := fault, steps := before ++ write :: rest }

/-- R139 and R141; what the mark and the admission do is MarkReachesItsDock and ReportMergesJoinsOrIsDiscarded. Where the
rules leave it open it follows the model's choice or inference: assumption 33. -/
def Obligations.FaultReportIsTaken : Prop :=
  ∀ (s : State) (f : LongFrame) (dock code present : Byte) (card : Serial),
    let i := Instr.faultReport f dock code present card
    let crew := f.link.port = .service
    s.gets f i → f.link.port ≠ .backhaul → (crew ∨ present.toNat ≤ 1) →
    let a := s.accepted f.link
    let bad := 64 < dock.toNat ∨ (¬ crew ∧ (code.toNat = 0 ∨ 9 < code.toNat)) ∨ (crew ∧ code ≠ 13)
    let idle := ∀ m x, s.manifests.get m = some x → x.state ≠ .active
    let taken (d : Option DockNo) (reporter : Option Serial) (restarted : State → State) : Prop :=
      let bike := d.bind fun e => (s.dock e).bike
      let marks := s.faults.policyOf code.toNat = .quarantine ∧ bike.isSome = true
      let marked := match d with
        | some e => if marks then a.applyMark e (.mark code.toNat) else a
        | none => a
      let r := marked.takeReport { source := if crew then .crew else .kiosk, code := code.toNat, dock := d, bike, reporter }
      ∃ t, exec i s = .next (t.replied f.link .ok (some ([r.2.1.code] ++ leBytes 2 r.2.2 ++ [if marks then 1 else 0])))
        ∧ EndsAs (restarted r.1) t
    (bad → exec i s = .next (a.replied f.link .badRequest))
    ∧ (¬ bad → crew → idle → exec i s = .next (a.replied f.link .notFound))
    ∧ (∀ d : DockNo, ¬ bad → (crew → ¬ idle) → dock.toNat = d.val + 1 → (s.dock d).mapped = false →
      exec i s = .next (a.replied f.link .notAvailable none (some .unmapped)))
    ∧ ∀ d : Option DockNo, ¬ bad → dock.toNat = (match d with
        | some e => e.val + 1
        | none => 0) → (∀ e, d = some e → (s.dock e).mapped = true) →
      (¬ crew → taken d (if present = 1 then some card else none) id)
      ∧ ∀ (m : SlotNo) (x : Manifest), crew → s.manifests.get m = some x → x.state = .active →
        (m = 1 → ∀ y, s.manifests.get 0 = some y → y.state ≠ .active) →
        let y := { x with idleAt := some (s.uptime + s.settings.idleTimeout) }
        taken d x.staff fun u => { u with manifests := u.manifests.set m.val (some y) m.isLt }

/-- R148, R149 and R150; what the mark and the admission do is MarkReachesItsDock and ReportMergesJoinsOrIsDiscarded.
Where the rules leave it open it follows the model's choice or inference: assumption 31. -/
def Obligations.MarkRequestsOfOfficeAndCrew : Prop :=
  ∀ s : State,
    let noDock (dock : Byte) : Prop := dock.toNat = 0 ∨ 64 < dock.toNat
    let accepts (d : DockNo) (expected : BitVec 24) : Prop :=
      ∃ n, (s.dock d).bike = some n ∧ (expected = 0 ∨ expected.toNat = n)
    let marked (i : Instr) (k : Link) (a : State) (d : DockNo) (m : Marking) (r : Report) : Prop :=
      let u := (a.applyMark d m).takeReport r
      ∃ t, exec i s = .next (t.replied k .ok (some ([u.2.1.code] ++ leBytes 2 u.2.2 ++ [if m = .clear then 0 else 1])))
        ∧ EndsAs u.1 t
    (∀ (f : LongFrame) (dock code : Byte) (expected : BitVec 24) (set : Bool),
      let i := if set then Instr.bikeMarkSet f dock code expected else Instr.bikeMarkClear f dock code expected
      let c := code.toNat
      let bad := noDock dock ∨ (set = true ∧ ¬ (1 ≤ c ∧ c ≤ 9 ∨ 11 ≤ c ∧ c ≤ 13))
      s.gets f i → f.link.port = .backhaul →
      (bad → exec i s = .next ((s.accepted f.link).replied f.link .badRequest))
      ∧ ∀ d : DockNo, ¬ bad → dock.toNat = d.val + 1 →
        ((s.dock d).mapped = false →
          exec i s = .next ((s.accepted f.link).replied f.link .notAvailable none (some .unmapped)))
        ∧ ((s.dock d).mapped = true → ¬ accepts d expected →
          exec i s = .next ((s.accepted f.link).replied f.link .notFound))
        ∧ ((s.dock d).mapped = true → accepts d expected →
          marked i f.link (s.accepted f.link) d (if set then .mark c else .clear)
            { source := .central, code := if set then c else 14, dock := some d, bike := (s.dock d).bike
              reporter := none }))
    ∧ (∀ (f : LongFrame) (dock : Byte) (expected : BitVec 24),
      let i := Instr.bikeClear f dock expected
      let refused (st : Status) (r : Option Reason) : Prop := exec i s = .next ((s.accepted f.link).replied f.link st none r)
      s.gets f i → f.link.port = .service →
      (noDock dock → refused .badRequest none)
      ∧ ∀ d : DockNo, dock.toNat = d.val + 1 →
        ((∀ m x, s.manifests.get m = some x → x.state ≠ .active) → refused .notFound none)
        ∧ ∀ m x, s.manifests.get m = some x → x.state = .active →
          (m = 1 → ∀ y, s.manifests.get 0 = some y → y.state ≠ .active) →
          let y := { x with idleAt := some (s.uptime + s.settings.idleTimeout) }
          ((s.dock d).mapped = false → refused .notAvailable (some .unmapped))
          ∧ ((s.dock d).mapped = true → ¬ accepts d expected → refused .notFound none)
          ∧ ((s.dock d).mapped = true → accepts d expected →
            marked i f.link { s.accepted f.link with manifests := s.manifests.set m.val (some y) m.isLt } d .clear
              { source := .crew, code := 14, dock := some d, bike := (s.dock d).bike, reporter := x.staff }))
    ∧ ∀ (k : Link) (dock : Byte), s.hears k → k.port = .service →
      let refused (st : Status) (r : Option Reason) : Prop :=
        exec (.dockReset k dock 0) s = .next ((s.accepted k).replied k st none r)
      (noDock dock → refused .badRequest none)
      ∧ ∀ d : DockNo, dock.toNat = d.val + 1 →
        ((s.dock d).mapped = false → refused .notAvailable (some .unmapped))
        ∧ ((s.dock d).mapped = true → (s.dock d).link = .lost → refused .notAvailable (some .lost))
        ∧ ((s.dock d).mapped = true → (s.dock d).link = .online →
          ∃ t, exec (.dockReset k dock 0) s = .next (t.replied k .ok (some [(t.dock d).custody.code]))
            ∧ EndsAs (((s.accepted k).updLane d fun y => { y with errors := 0 }).updDock d fun q =>
              if q.custody = .jammed then
                { q with
                  custody := .verify, stale := q.stale || q.steps.contains .clear, steps := [.query], lastPattern := none
                  flash := none, arrival := none, release := none
                  verifyCtx := match q.release with
                    | some r => some ({ r with waiting := false } : Release)
                    | none => q.verifyCtx }
              else q) t)

/-- R145, R147, R146 and R140; the records and the summary are laid out as chapter 10.5 gives. Where the rules leave it
open it follows the model's choice or inference: assumption 31. -/
def Obligations.FaultRequestsOfTheOffice : Prop :=
  (∀ (s : State) (k : Link), s.hears k → k.port = .backhaul →
    let summary (u : FaultUnit) : List Byte :=
      [BitVec.ofNat 8 u.queue.length, BitVec.ofNat 8 (u.queue.filter fun r => r.sent = false).length]
        ++ leBytes 2 u.next ++ [BitVec.ofNat 8 u.discarded] ++ leBytes 2 (((List.range 16).filter fun c =>
          decide (1 ≤ c ∧ (u.policyOf c = .quarantine ∨ u.policyOf c = .fixedMark))).foldl (fun w c => w + 2 ^ c) 0)
    let rs := (s.faults.queue.filter fun r => r.sent = false).take 4
    (exec (.faultRead k 0) s = .next ((s.accepted k).replied k .ok
        (some (summary s.faults ++ [BitVec.ofNat 8 rs.length] ++ rs.flatMap faultBytes))))
    ∧ ∀ n : BitVec 16,
      ((∀ r ∈ s.faults.queue, r.number ≠ n.toNat) →
        exec (.faultDrop k n) s = .next ((s.accepted k).replied k .notFound))
      ∧ ∀ (before after : List FaultRecord) (r : FaultRecord), s.faults.queue = before ++ r :: after →
        r.number = n.toNat → (∀ q ∈ before ++ after, q.number ≠ n.toNat) →
        let u : FaultUnit := { s.faults with queue := before ++ after }
        exec (.faultDrop k n) s = .next ({ s.accepted k with faults := u }.replied k .ok (some (summary u))))
    ∧ ((∀ (s : State) (f : LongFrame) (read : Byte) (es : List AckWords),
      let i := Instr.faultAck f read es
      s.gets f i → i.wellFormed = true → f.link.port = .backhaul →
      let good := es ≠ [] ∧ es.length ≤ 16 ∧ ∀ e ∈ es, 1 ≤ e.repeats.toNat ∧ e.repeats.toNat ≤ 15
      (¬ good → exec i s = .next ((s.accepted f.link).replied f.link .badRequest))
      ∧ (good → (s.faults.queue.map FaultRecord.number).Nodup →
        let u : FaultUnit := { s.faults with
          discarded := s.faults.discarded - read.toNat
          queue := s.faults.queue.map fun r =>
            if r.sent = false ∧ ∃ e ∈ es, e.number.toNat = r.number ∧ e.repeats.toNat = r.repeats then
              { r with sent := true } else r }
        ∃ acknowledged changed unknown : Nat, acknowledged + changed + unknown = es.length
          ∧ exec i s = .next ({ s.accepted f.link with faults := u }.replied f.link .ok
            (some ([BitVec.ofNat 8 acknowledged, BitVec.ofNat 8 changed, BitVec.ofNat 8 unknown]
              ++ faultSummary { s with faults := u })))
          ∧ ∀ e, es = [e] →
            ((∀ r ∈ s.faults.queue, r.number ≠ e.number.toNat) → unknown = 1)
            ∧ ∀ r ∈ s.faults.queue, r.number = e.number.toNat →
              (r.sent = true ∨ r.repeats = e.repeats.toNat → acknowledged = 1)
              ∧ (r.sent = false → e.repeats.toNat < r.repeats → changed = 1)
              ∧ (r.sent = false → r.repeats < e.repeats.toNat → unknown = 1)))
    ∧ ∀ (s : State) (k : Link) (code policy : Byte), s.hears k → k.port = .backhaul → policy.toNat ≤ 1 →
      let writable := 1 ≤ code.toNat ∧ code.toNat ≤ 9 ∨ code.toNat = 13
      (¬ writable → exec (.policySet k code policy) s = .next ((s.accepted k).replied k .badRequest))
      ∧ (writable → ∃ u : FaultUnit, { u with policy := s.faults.policy } = s.faults
        ∧ (∀ c : Nat, u.policyOf c = if c = code.toNat then (if policy = 1 then .quarantine else .reportOnly)
          else s.faults.policyOf c)
        ∧ exec (.policySet k code policy) s =
          .next ({ s.accepted k with faults := u }.replied k .ok (some (faultSummary { s with faults := u })))))

/-- R53 and R54 with R2 and R4, for a dock whose record is cleared where it is not mapped (R1); the cursor's write is
R167. Where the rules leave it open it follows the model's choice or inference: assumptions 31 and 33. -/
def Obligations.MapWriteMapsOrClearsTheDock : Prop :=
  (∀ (s : State) (f : LongFrame) (d : DockNo) (valid address : Byte) (cursor : Bool),
    let i := if cursor then Instr.cursorWrite f (.map valid address) else .mapPut f (BitVec.ofNat 8 (d.val + 1)) valid address
    let c := (s.port f.link.port).cursor
    s.gets f i → f.link.port ≠ .kiosk → valid.toNat ≤ 1 → (cursor = true → c.table = .map ∧ c.index = d.val) →
    (s.map.get d = none → s.dock d = Dock.cleared) →
    let a := s.accepted f.link
    let e : Option Nat := if valid = 1 then some address.toNat else none
    let bytes : List Byte := if valid = 1 then [1, address] else [0, 0]
    let step (u : State) : State := if cursor = true ∧ c.mode ≠ .none then
        u.updPort f.link.port fun q => { q with cursor := { c with index := c.index + 1 } } else u
    let bad := valid = 1 ∧ (address.toNat < 1 ∨ 120 < address.toNat)
    let busy := (s.map.get d).isSome = true ∧ (s.dock d).link ≠ .lost
      ∧ ((s.dock d).custody ≠ .empty ∨ (s.lane d).slot.isSome = true ∨ ∃ x, s.line.arbiter = .exchange x ∧ x.dock = d)
    let twice := e.isSome = true ∧ ∃ b : DockNo, b ≠ d ∧ s.map.get b = e
    (bad → exec i s = .next (a.replied f.link .badRequest))
    ∧ (¬ bad → s.map.get d = e → exec i s = .next ((step a).replied f.link .ok (some bytes)))
    ∧ (¬ bad → s.map.get d ≠ e → busy → exec i s = .next (a.replied f.link .dockBusy))
    ∧ (¬ bad → s.map.get d ≠ e → ¬ busy → twice → exec i s = .next (a.replied f.link .duplicate))
    ∧ (¬ bad → s.map.get d ≠ e → ¬ busy → ¬ twice →
      let bare := (a.dropHold d).updDock d fun _ => Dock.cleared
      let given := if (s.dock d).release.isSome = true ∨ (s.dock d).verifyCtx.isSome = true then
          { bare with journal := { bare.journal with reserved := bare.journal.reserved - 1 } }.drain
        else bare
      let u := if (s.map.get d).isSome then given else a
      let quiet : Arbiter := match u.line.arbiter with
        | .exchange x => .exchange (if x.dock = d then { x with discard := true } else x)
        | other => other
      ∃ t, exec i s = .next ((step t).replied f.link .ok (some bytes))
        ∧ t.map = s.map.set d.val e d.isLt
        ∧ EndsAs ({ u with
          map := s.map.set d.val e d.isLt
          docks := if e.isSome = true then u.docks.set d.val { Dock.cleared with
            mapped := true, custody := .verify, steps := [.query] } d.isLt else u.docks
          line := { u.line with
            lanes := u.line.lanes.set d.val Lane.start d.isLt
            queue := u.line.queue.filter fun b => b ≠ d
            arbiter := quiet } }) t))
    ∧ (∀ (s : State) (f : LongFrame),
    let a := s.accepted f.link
    (∀ dock valid address : Byte, s.gets f (.mapPut f dock valid address) → f.link.port ≠ .kiosk → valid.toNat ≤ 1 →
      (dock.toNat = 0 ∨ 64 < dock.toNat) →
      exec (.mapPut f dock valid address) s = .next (a.replied f.link .badRequest))
    ∧ ∀ w : CursorEntry, s.gets f (.cursorWrite f w) → (Instr.cursorWrite f w).wellFormed = true →
      (s.port f.link.port).cursor.table = .map →
      (f.link.port = .kiosk → exec (.cursorWrite f w) s = .next (a.replied f.link .notPermitted))
      ∧ (f.link.port ≠ .kiosk → 64 ≤ (s.port f.link.port).cursor.index →
        exec (.cursorWrite f w) s = .next (a.replied f.link .range))
      ∧ (f.link.port ≠ .kiosk → (s.port f.link.port).cursor.index < 64 →
        (∀ valid address : Byte, w = .map valid address → 1 < valid.toNat) →
        exec (.cursorWrite f w) s = .next (a.replied f.link .badRequest)))

/-- R176 and R177; what becomes of an expired manifest is `Closed`. Where the rules leave it open it follows the model's
choice or inference: assumptions 9 and 18. -/
def Obligations.ClockSetDatesTheTable : Prop :=
  ∀ (s : State) (f : LongFrame) (time : BitVec 32),
    let i := Instr.clockSet f time
    let v := time.toNat
    s.gets f i → f.link.port = .backhaul →
    let a := s.accepted f.link
    let set (old : Option Nat) (t : State) : Prop := exec i s = .next (t.replied f.link .ok
      (some ([if old.isSome then 1 else 0] ++ leBytes 4 (old.getD 0) ++ leBytes 4 v ++ leBytes 4 s.uptime)))
    (v = 0 → exec i s = .next (a.replied f.link .badRequest))
    ∧ (v ≠ 0 → s.clock = none →
      let dated : Time → Time := fun x => match x with
        | .uptime r => .clock (v - (s.uptime - r))
        | .clock c => .clock c
      let decided (w : Settlement) (x : Time) : Settlement := match w with
        | .ended true st => if RetractTest s.settings st x.value then .retract st else .ended false st
        | other => other
      ∃ (t w : State), set none t ∧ EndsAs w.drain t
        ∧ { w with docks := s.docks, manifests := s.manifests, freeUsed := s.freeUsed } = { a with
          clock := some v
          journal := { s.journal with records := s.journal.records.map fun r => { r with time := dated r.time } }
          faults := { s.faults with queue := s.faults.queue.map fun r => { r with first := dated r.first } } }
        ∧ (∀ d, w.dock d = { s.dock d with
          since := (s.dock d).since.map dated
          arrival := (s.dock d).arrival.map fun x => { x with
            time := dated x.time
            locked := x.locked.map fun l => { at_ := dated l.at_, what := decided l.what (dated x.time) } }
          settle := (s.dock d).settle.map fun x => { x with time := dated x.time, what := decided x.what (dated x.time) }
          lastReturn := (s.dock d).lastReturn.map fun x => { x with time := dated x.time } })
        ∧ (s.freeUsed ≤ w.freeUsed ∧ (v + 1800 ≤ 4294967295 → w.freeUsed = s.freeUsed))
        ∧ ∀ m, (s.manifests.get m = none → w.manifests.get m = none)
          ∧ ∀ x, s.manifests.get m = some x →
            (x.state = .staged ∧ x.stagedUntil = none → ∃ til ≤ 4294967295,
              w.manifests.get m = some { x with stagedUntil := some til }
              ∧ (v + 1800 ≤ 4294967295 → til = v + 1800))
            ∧ (¬ (x.state = .staged ∧ x.stagedUntil = none) → w.manifests.get m = some x))
    ∧ ∀ old, v ≠ 0 → s.clock = some old →
      let stays (c : Card) : Bool := decide (¬ (c.isGuest = true ∧ c.trips = 0 ∧ ∃ e, c.expiry = some e ∧ e ≤ v))
      let ended (x : Manifest) : Prop := x.state = .staged ∧ ∃ til, x.stagedUntil = some til ∧ til ≤ v
      s.cards.Pairwise (fun b c => b.serial.toNat < c.serial.toNat) →
      ∃ t, set (some old) t ∧ t.clock = some v ∧ t.cards = s.cards.filter stays
        ∧ (∀ m x, s.manifests.get m = some x → ended x → Closed s t m x .expired)
        ∧ ((∀ m x, s.manifests.get m = some x → ¬ ended x) →
          EndsAs { a with clock := some v, cards := s.cards.filter stays } t)

/-- R180, with the ranges of its table. -/
def Obligations.StationSetReadsAndClamps : Prop :=
  (∀ (s : State) (f : LongFrame), s.gets f (.stationSetRead f) → f.link.port = .backhaul →
      exec (.stationSetRead f) s = .next ((s.accepted f.link).replied f.link .ok (some (stationBytes s))))
    ∧ ∀ (s : State) (f : LongFrame) (w : SettingsWords), s.gets f (.stationSetWrite f w) → f.link.port = .backhaul →
      w.lineParity.toNat ≤ 1 → w.parityCheck.toNat ≤ 1 → w.sumKiosk.toNat ≤ 1 → w.sumBackhaul.toNat ≤ 1 →
      w.sumService.toNat ≤ 1 →
      let kept : Settings :=
        { stationNumber := clampTo 0 65535 w.stationNumber, memberWindow := clampTo 5 60 w.memberWindow
          vanWindow := clampTo 30 300 w.vanWindow, retractWindow := clampTo 0 300 w.retractWindow
          lowFill := clampTo 0 64 w.lowFill, attribution := clampTo 30 600 w.attribution
          sweepPeriod := clampTo 5 120 w.sweepPeriod, replyTimeout := clampTo 5 100 w.replyTimeout
          retryLimit := clampTo 0 3 w.retryLimit, dropThreshold := clampTo 1 32 w.dropThreshold
          dropWindow := clampTo 5 300 w.dropWindow, probeInterval := clampTo 10 600 w.probeInterval
          idleTimeout := clampTo 60 3600 w.idleTimeout, oddParity := decide (w.lineParity = 0)
          parityCheck := decide (w.parityCheck = 1), sumKiosk := decide (w.sumKiosk = 1)
          sumBackhaul := decide (w.sumBackhaul = 1), sumService := decide (w.sumService = 1) }
      let outside (lo hi : Int) (v : BitVec 32) : Prop := v.toInt < lo ∨ hi < v.toInt
      let clamped := outside 0 65535 w.stationNumber ∨ outside 5 60 w.memberWindow ∨ outside 30 300 w.vanWindow
        ∨ outside 0 300 w.retractWindow ∨ outside 0 64 w.lowFill ∨ outside 30 600 w.attribution
        ∨ outside 5 120 w.sweepPeriod ∨ outside 5 100 w.replyTimeout ∨ outside 0 3 w.retryLimit
        ∨ outside 1 32 w.dropThreshold ∨ outside 5 300 w.dropWindow ∨ outside 10 600 w.probeInterval
        ∨ outside 60 3600 w.idleTimeout
      (clamped → exec (.stationSetWrite f w) s = .next ({ s.accepted f.link with settings := kept }.replied f.link .clamped
        (some (stationBytes { s with settings := kept }))))
      ∧ (¬ clamped → exec (.stationSetWrite f w) s = .next ({ s.accepted f.link with settings := kept }.replied f.link .ok
        (some (stationBytes { s with settings := kept }))))

/-- R9 and the OK of R10; LOCK_FAIL is DockJams, LINE_FAIL is BadTriesRetryFailAndDrop. Where the rules leave it open it
follows the model's choice or inference: assumptions 10, 11 and 12. -/
def Obligations.StampAndUnlockReplies : Prop :=
  ∀ (s : State) (x : Exchange) (call : Bool), s.awaits x →
    let d := x.dock
    let a := s.answered x call
    (∀ (st : Stamp) (reply : PostStatus), x.cmd = .stamp st → reply = .ok ∨ reply = .tagAbsent ∨ reply = .tagWriteFail →
      ((∀ r, (s.dock d).release = some r → r.phase ≠ .stamping) →
        ∃ t, exec (.writeTagStamp reply call) s = .next t ∧ EndsAs a t)
      ∧ ∀ r, (s.dock d).release = some r → r.phase = .stamping →
        (reply = .ok → ∃ t, exec (.writeTagStamp .ok call) s = .next t ∧ EndsAs (a.updDock d fun k =>
          { k with
            release := some { r with phase := .unlocking }
            steps := putStep (.unlock s.settings.memberWindow) k.steps }) t)
        ∧ (reply ≠ .ok → ∃ t, exec (.writeTagStamp reply call) s = .next t ∧ EndsAs
          (((((a.withdrawn d r .tagFail none .jammed).staysIn d r .docked).report .tag 12 d (s.dock d).bike).applyMark d
            (.mark 12))) t))
    ∧ ∀ w : Nat, x.cmd = .unlock w →
      ((∀ r, (s.dock d).release = some r → r.phase ≠ .unlocking) → ∀ reply, reply = .ok ∨ reply = .lockFail →
        ∃ t, exec (.unlock reply call) s = .next t ∧ EndsAs a t)
      ∧ ∀ r, (s.dock d).release = some r → r.phase = .unlocking →
        ∃ t, exec (.unlock .ok call) s = .next t ∧ EndsAs ((a.updDock d fun k =>
          { k with
            release := some { r with
              phase := .opened, deadline := some (s.uptime + w), waiting := false } }).granted d r) t

/-- R23, at each of the rules that lead to it. What a jam makes of the state is `State.jams`. Where the rules leave it
open it follows the model's choice or inference: assumptions 23 and 24. -/
def Obligations.DockJams : Prop :=
  (∀ (s : State) (d : DockNo) (w : Nat) (n : NewsHead), s.awaitsNews d w n →
      ∃ t, exec (.jam n) s = .next t ∧ EndsAs ((s.newsTaken d w n).jams d) t)
    ∧ ∀ (s : State) (x : Exchange) (call : Bool), s.awaits x →
      let k := s.dock x.dock
      (∀ w r, x.cmd = .unlock w → k.release = some r → r.phase = .unlocking →
        ∃ t, exec (.unlock .lockFail call) s = .next t ∧ EndsAs ((s.answered x call).jams x.dock) t)
      ∧ (x.cmd = .lock → k.custody = .docked ∨ k.custody = .verify
          ∨ (k.custody = .arriving ∧ ∃ a, k.arrival = some a ∧ a.locked = none)
          ∨ (k.custody = .releasing ∧ k.release.isSome = true) →
        ∃ t, exec (.lock .lockFail call) s = .next t ∧ EndsAs ((s.answered x call).jams x.dock) t)

/-- R11 with R6, R12 and R13, and R18. What a removal makes of the state is `State.removed`. Where the rules leave it open
it follows the model's choice or inference: assumptions 16, 24 and 40. -/
def Obligations.RemovalCompletesARelease : Prop :=
  ∀ s : State,
    let late (r : Release) : Bool := match r.deadline with
      | none => false
      | some u => decide (u ≤ r.stopped.getD s.uptime)
    let missing (a : State) (d : DockNo) : State :=
      ((a.dropHold d).report .lock 15 d (s.dock d).bike).updDock d fun k =>
        { k with
          custody := .empty, bike := none, withheld := false, since := none, mark := none, stale := false
          lastReturn := none }
    (∀ (d : DockNo) (w : Nat) (n : NewsHead), s.awaitsNews d w n →
      let ends (u : State) : Prop := ∃ t, exec (.removed n) s = .next t ∧ EndsAs u t
      let a := s.newsTaken d w n
      (∀ r, (s.dock d).custody = .releasing → (s.dock d).release = some r → ends (a.removed d r (late r)))
      ∧ ((s.dock d).custody = .docked → ends (missing a d))
      ∧ ((s.dock d).custody = .empty ∨ (s.dock d).custody = .arriving ∨ (s.dock d).custody = .jammed → ends a))
    ∧ ∀ (x : Exchange) (call : Bool), s.awaits x →
      let k := s.dock x.dock
      let a := s.answered x call
      let empty (i : Instr) (u : State) : Prop := ∃ t, exec i s = .next t ∧ EndsAs u t
      (∀ b : StateBlock, x.cmd = .query → b.flags.getLsbD 0 = false →
        (∀ r, k.custody = .releasing → k.release = some r → r.phase = .opened →
          empty (.query b call) (a.removed x.dock r (late r)))
        ∧ (∀ r, k.custody = .verify → k.verifyCtx = some r → k.release = none →
          empty (.query b call) (a.removed x.dock r true))
        ∧ (k.custody = .docked → empty (.query b call) (missing a x.dock)))
      ∧ (x.cmd = .lock →
        (∀ r, k.custody = .releasing → k.release = some r → r.phase = .relocking →
          empty (.lock .empty call) (a.removed x.dock r (late r)))
        ∧ (∀ r, k.custody = .verify → k.verifyCtx = some r → k.release = none →
          empty (.lock .empty call) (a.removed x.dock r true))
        ∧ (k.custody = .docked → empty (.lock .empty call) (missing a x.dock)))

/-- R12, R5, R6, R16 and R17 with R84; what an admitted record makes is AdmissionChargesAndRecords, and what counting an
arrival for a manifest, or displacing a hold, makes of the state is ArrivalsCountForManifests. Where the rules leave it
open it follows the model's choice or inference: assumptions 18, 21, 23, 40 and 41. -/
def Obligations.RelockCancelsOrSettles : Prop :=
  ∀ (s : State) (x : Exchange) (call : Bool), s.awaits x → x.cmd = .lock →
    let d := x.dock
    let k := s.dock d
    let a := s.answered x call
    let ends (reply : PostStatus) (u : State) : Prop := ∃ t, exec (.lock reply call) s = .next t ∧ EndsAs u t
    let gone (q : Dock) : Dock :=
      { q with
        custody := .empty, bike := none, withheld := false, since := none, mark := none, stale := false
        lastReturn := none }
    (∀ r, k.custody = .releasing ∧ k.release = some r ∧ r.phase = .relocking
        ∨ k.custody = .verify ∧ k.verifyCtx = some r →
      ends .locked ((a.updDock d fun q => q.clears r).staysIn d r .docked))
    ∧ (k.custody = .docked → ends .locked a)
    ∧ (k.custody = .verify → k.verifyCtx = none →
      (k.bike.isSome = true ∧ k.since.isSome = true → ends .locked (a.updDock d fun q => { q with custody := .docked }))
      ∧ (¬ (k.bike.isSome = true ∧ k.since.isSome = true) → ends .locked a)
      ∧ ends .empty ((if (loadHold s d).isSome then a.dropHold d else a).updDock d gone))
    ∧ (∀ reply, reply = .locked ∨ reply = .empty → k.custody = .empty ∨ k.custody = .jammed
        ∨ (k.custody = .arriving ∧ ∃ b, k.arrival = some b ∧ b.locked.isSome = true)
        ∨ (k.custody = .releasing ∧ ∀ r, k.release = some r → r.phase ≠ .relocking) → ends reply a)
    ∧ ∀ arrival : Arrival, k.custody = .arriving → k.arrival = some arrival → arrival.locked = none →
      ends .empty (a.updDock d fun q => { gone q with arrival := none })
      ∧ (let marked := match arrival.tag with
          | none => (a.report .tag 12 d k.bike).updDock d fun q => { q with mark := some 12 }
          | some tag => match tag.mark with
            | some c => if k.steps.any Cmd.isMarking then a else a.updDock d fun q => { q with mark := some c }
            | none => a
        let stamp := arrival.tag.bind TagRecord.stamp
        let counted : State × Option Nat := match stamp with
          | some _ => (marked.displace d, none)
          | none => marked.countDelivery d
        let what : Settlement := match stamp, arrival.time with
          | none, _ => .vanIn counted.2
          | some st, .uptime _ => .ended true st
          | some st, .clock v => if RetractTest s.settings st v then .retract st else .ended false st
        let noted (q : Dock) : Dock := match stamp with
          | some st => { q with lastReturn := some ⟨st.serial, arrival.time⟩, steps := putStep .clear q.steps }
          | none => q
        (k.settle.isSome = true → ends .locked (counted.1.updDock d fun q =>
          { noted q with arrival := some { arrival with locked := some ⟨now s, what⟩ } }))
        ∧ (k.settle = none →
          let e : Settle :=
            { what, time := arrival.time, clockLate := arrival.clockLate, lowFill := arrival.lowFill, bike := k.bike.getD 0 }
          let admitted := arrival.time.isUptime = false ∧ s.journal.records.length + s.journal.reserved < 256
            ∧ s.journal.next + s.journal.reserved + 1 ≤ 4294967296
          let u := if admitted then counted.1.settleAs d e false else counted.1
          ends .locked (u.updDock d fun q =>
            { noted q with
              custody := .docked, since := some (now s), arrival := none
              settle := if admitted then none else some e })))

/-- R100 with R78, R90 to R92 and the flags of R96; the charge is RideChargeFollowsItsStages. -/
def Obligations.AdmissionChargesAndRecords : Prop :=
  (∀ (s : State) (d : DockNo) (e : Settle) (deferred : Bool),
    let v := e.time.value
    let joins (u : State) (body : JournalBody) (flags : JournalFlags) : State := { u with
      journal := { u.journal with
        records := s.journal.records ++ [{ number := s.journal.next, body, time := e.time, dock := d.val + 1, bike := e.bike, flags }]
        next := s.journal.next + 1 } }
    (∀ provisional st, e.what = .ended provisional st →
      let c := rideCharge (s.tariffs.get st.plan) st.start v e.lowFill
      let r := s.chargeCard st c.net v
      (r.2 = none → s.settleAs d e deferred = joins r.1 (.ended st c.time.seconds c.gross c.credit c.net 0)
        { skew := c.time.skew, long := c.time.long, capped := c.capped, credit := c.creditFlag, remoteCard := true, deferred
          clockLate := e.clockLate })
      ∧ ∀ taken, r.2 = some taken →
        s.settleAs d e deferred = joins r.1 (.ended st c.time.seconds c.gross c.credit c.net taken.deducted)
          { skew := c.time.skew, long := c.time.long, capped := c.capped, credit := c.creditFlag
            shortfall := taken.shortfall, floor := taken.floor, deferred, clockLate := e.clockLate })
    ∧ (∀ st, e.what = .retract st →
      let seconds := min (v - st.start) 259200
      let body : JournalBody := .retract st.serial st.trip seconds
      let flags : JournalFlags := { deferred, clockLate := e.clockLate }
      ((findCard s st.serial = none ∨ ∃ c, findCard s st.serial = some c ∧ (c.isStaff = true ∨ c.isGuest ≠ st.guest)) →
        s.settleAs d e deferred = joins s body flags)
      ∧ ∀ c, findCard s st.serial = some c → c.isStaff = false → c.isGuest = st.guest →
        ∃ q : Card, { q with body := c.body } = { c with trips := c.trips - 1, lastUse := some v }
          ∧ (match c.body with
            | .member n p b _ => q.body = .member n p b (some 0)
            | .guest n p b _ => q.body = .guest n p b (some 0)
            | .staff _ => True)
          ∧ s.settleAs d e deferred = joins (if c.isGuest = true ∧ c.trips ≤ 1 ∧ cardExpired s c = true then s.dropCard c.serial
            else s.putCard q) body flags)
    ∧ ∀ m, e.what = .vanIn m → s.settleAs d e deferred = joins s (.vanIn m) { deferred, clockLate := e.clockLate })
    ∧ (∀ (s : State) (st : Stamp) (net time : Nat),
    (∀ (c : Card) (n : Nat) (p : Fin 8) (b : Int) (l : Option Nat), findCard s st.serial = some c → c.body = .member n p b l →
      -100000 ≤ b → if st.guest then s.chargeCard st net time = (s, none) else
        ∃ d : Deduction, s.chargeCard st net time = (s.putCard { c with
            body := .member n p (b - d.deducted) (some net), trips := c.trips - 1, lastUse := some time }, some d)
          ∧ d.shortfall = false
          ∧ (-100000 ≤ b - net → d.deducted = net ∧ d.floor = false)
          ∧ (b - net < -100000 → (d.deducted : Int) = b + 100000 ∧ d.deducted < net ∧ d.floor = true))
    ∧ (∀ (c : Card) (n : Nat) (p : Fin 8) (m : Int) (l : Option Nat), findCard s st.serial = some c → c.body = .guest n p m l →
      0 ≤ m → if st.guest = false then s.chargeCard st net time = (s, none) else
        ∃ d : Deduction, s.chargeCard st net time = (if c.trips ≤ 1 ∧ cardExpired s c = true then s.dropCard c.serial
            else s.putCard { c with
              body := .guest n p (m - d.deducted) (some net), trips := c.trips - 1, lastUse := some time }, some d)
          ∧ d.floor = false
          ∧ ((net : Int) ≤ m → d.deducted = net ∧ d.shortfall = false)
          ∧ (m < net → (d.deducted : Int) = m ∧ d.deducted < net ∧ d.shortfall = true))
    ∧ ((findCard s st.serial = none ∨ ∃ c n, findCard s st.serial = some c ∧ c.body = .staff n) →
      s.chargeCard st net time = (s, none)))

/-- R125 and R126, with the dropping of R116 and the restart of R128. -/
def Obligations.ArrivalsCountForManifests : Prop :=
  ∀ (s : State) (d : DockNo),
    let counted (u : State) (m : SlotNo) (i : Nat) : State := u.updManifest m fun x =>
      { x with
        lines := x.lines.modify i fun l => { l with done := l.done + 1 }
        idleAt := if x.state = .active then some (s.uptime + s.settings.idleTimeout) else x.idleAt }
    let unload (h : Hold) : Prop := (s.dock d).hold = some h ∧ ∃ (x : Manifest) (l : MLine),
      s.manifests.get h.slot = some x ∧ x.lines[h.line]? = some l ∧ l.action = .unload
    (∀ (h : Hold) (x : Manifest), unload h → s.manifests.get h.slot = some x →
      s.countDelivery d = (counted (s.dropHold d) h.slot h.line, some x.id)
      ∧ s.displace d = (s.dropHold d).updManifest h.slot fun x =>
        { x with lines := x.lines.modify h.line fun l => { l with displaced := min 255 (l.displaced + 1) } })
    ∧ ((∀ h, ¬ unload h) → s.displace d = s
      ∧ ((∀ m x, s.manifests.get m = some x → x.state ≠ .active) → s.countDelivery d = (s, none))
      ∧ ∀ (m : SlotNo) (x : Manifest), s.manifests.get m = some x → x.state = .active →
        (m = 1 → ∀ y, s.manifests.get 0 = some y → y.state ≠ .active) →
        let short (l : MLine) : Prop := l.action = .unload ∧ l.reserved + l.done < l.asked
        ((∀ l ∈ x.lines, ¬ short l) → s.countDelivery d = (s, none))
        ∧ ∀ (before after : List MLine) (l : MLine), x.lines = before ++ l :: after → short l → (∀ q ∈ before, ¬ short q) →
          s.countDelivery d = (counted s m before.length, some x.id))
    ∧ ((s.dropHold d).dock d = { s.dock d with hold := none }
      ∧ ∀ h x, (s.dock d).hold = some h → s.manifests.get h.slot = some x → (s.dropHold d).manifests.get h.slot =
        some { x with lines := x.lines.modify h.line fun l => { l with reserved := l.reserved - 1 } })

/-- R19 and R5, R6's reply with a bike, R20's test and R21. Bikes that are gone are RemovalCompletesARelease. Where the
rules leave it open it follows the model's choice or inference: assumptions 20, 21 and 22. -/
def Obligations.QueryReplyReconcilesTheDock : Prop :=
  (∀ (s : State) (x : Exchange) (b : StateBlock) (call : Bool), s.awaits x → x.cmd = .query →
      let d := x.dock
      let k := s.dock d
      let a := s.answered x call
      let ends (f : Dock → Dock) : Prop := ∃ t, exec (.query b call) s = .next t ∧ EndsAs (a.updDock d f) t
      let lock (q : Dock) : Dock := { q with steps := putStep .lock q.steps }
      let takes (n : Nat) (q : Dock) : Dock :=
        { q with
          bike := some n, withheld := false
          lastReturn := if q.bike = none ∨ q.bike = some n then q.lastReturn else none }
      (readBlock b = none →
        (k.custody = .empty ∨ k.custody = .arriving ∨ k.custody = .jammed
          ∨ (k.custody = .releasing ∧ ∀ r, k.release = some r → r.phase ≠ .opened) → ends id)
        ∧ (k.custody = .verify → k.verifyCtx = none →
          let u := if (loadHold s d).isSome then a.dropHold d else a
          ∃ t, exec (.query b call) s = .next t ∧ EndsAs (u.updDock d fun q =>
            { q with
              custody := .empty, bike := none, withheld := false, since := none, mark := none, stale := false
              lastReturn := none }) t))
      ∧ ∀ r, readBlock b = some r → s.unheld d r.tag →
        let stamped := (r.tag.bind TagRecord.stamp).isSome
        let n := match r.tag with
          | some t => t.bike
          | none => 0
        let test (q : Dock) : Dock := if k.stale then
            if stamped then { q with steps := putStep .clear q.steps } else { q with stale := false }
          else q
        let resolved (f : Dock → Dock) (q : Dock) : Dock := if x.origin = .sweep then f (test q) else test (f q)
        (k.custody = .releasing ∨ k.custody = .arriving ∨ k.custody = .jammed → ends test)
        ∧ (k.custody = .empty → ends fun q => (test q).arrives (s.arrivalNow d r.tag))
        ∧ (k.custody = .docked →
          let relocks (q : Dock) : Dock := if r.latched then q else lock q
          (r.tag = none → ends fun q => test (relocks q))
          ∧ (∀ t, r.tag = some t → k.bike = some t.bike → t.bike ≠ 0 → ends fun q => test (relocks q))
          ∧ (∀ t, r.tag = some t → k.bike = some 0 → ends fun q => test (takes t.bike (relocks q)))
          ∧ ∀ t m, r.tag = some t → k.bike = some m → m ≠ 0 → t.bike ≠ m →
            ends fun q => test { takes t.bike (relocks q) with since := some (now s) })
        ∧ (∀ c, k.custody = .verify → k.verifyCtx = some c → ends (resolved fun q => (lock q).clears c))
        ∧ (k.custody = .verify → k.verifyCtx = none →
          let open_ := (stamped = true ∧ k.stale = false ∧ k.settle = none)
            ∨ (stamped = false ∧ ∃ t, r.tag = some t ∧ k.bike ≠ some t.bike)
            ∨ (r.tag = none ∧ k.bike = none) ∨ (k.bike.isSome = true ∧ k.since = none)
          (open_ → ends (resolved fun q => q.arrives (s.arrivalNow d r.tag)))
          ∧ (¬ open_ → ends (resolved fun q =>
            let p : Dock := { takes n q with
              since := if k.bike = some n then k.since else some (now s)
              mark := match r.tag.bind TagRecord.mark with
                | some c => some c
                | none => k.mark }
            if r.latched then { p with custody := .docked } else lock p))))
    ∧ ∀ (s : State) (d e : DockNo) (n : Nat), n ≠ 0 → e ≠ d → (s.dock e).bike = some n →
      (∀ c : DockNo, c ≠ d → c ≠ e → (s.dock c).bike ≠ some n) →
      let takes (u : State) : State := u.updDock d fun q =>
        { q with
          bike := some n, withheld := false
          lastReturn := if q.bike = none ∨ q.bike = some n then q.lastReturn else none }
      ((s.dock d).withheld = true → s.writeBike d n = (s.report .tag 12 d (some 0)).updDock d fun q =>
        { q with mark := some 12 })
      ∧ ((s.dock d).withheld = false → (s.dock e).custody ≠ .releasing →
        s.writeBike d n = takes (s.updDock e fun q =>
          { q with bike := some 0, withheld := true, lastReturn := none, steps := putStep .query q.steps }))
      ∧ ∀ r, (s.dock d).withheld = false → (s.dock e).custody = .releasing → (s.dock e).release = some r →
        s.writeBike d n = takes (s.removed e r (match r.deadline with
          | none => false
          | some u => decide (u ≤ r.stopped.getD s.uptime)))

/-- R20, R22, R42, R48 with R24, and the discarded outcomes of R47. Where the rules leave it open it follows the model's
choice or inference: assumptions 20 and 26. -/
def Obligations.TagWriteShowAndProbeReplies : Prop :=
  (∀ (s : State) (x : Exchange) (call : Bool), s.awaits x →
      let a := s.answered x call
      let written (st : PostStatus) : Prop := st = .ok ∨ st = .tagAbsent ∨ st = .tagWriteFail
      (x.cmd = .clear → ∀ st, written st → ∃ t, exec (.writeTagClear st call) s = .next t
        ∧ EndsAs (if st = .ok then a.updDock x.dock fun k => { k with stale := false } else a.clearLost x.dock) t)
      ∧ (∀ c st, x.cmd = .mark c → written st → ∃ t, exec (.writeTagMark st call) s = .next t ∧ EndsAs a t)
      ∧ (∀ st, x.cmd = .clearMark → written st → ∃ t, exec (.writeTagClearMark st call) s = .next t ∧ EndsAs a t)
      ∧ ∀ p, x.cmd = .display p → ∃ t, exec (.showReply .ok call) s = .next t ∧ EndsAs a t)
    ∧ ∀ (s : State) (x : Exchange) (call : Bool), s.mode = .run → s.line.arbiter = .exchange x → x.cmd = .probe →
      x.origin = .probe →
      let a := { s with line := { s.line with arbiter := .free, call } }
      (x.discard = false → ∃ t, exec (.probe .ok call) s = .next t
        ∧ EndsAs ((a.updDock x.dock fun k =>
          let q : Dock := { k with link := .online }
          if k.custody = .jammed then q else q.verifies).updLane x.dock fun y =>
            { y with failures := 0, window := 0, windowEnd := none, lastSeq := none, probeAt := none }) t)
      ∧ (x.discard = true → ∃ t, exec (.probe .ok call) s = .next t ∧ EndsAs a t)

/-- R35 and R43 to R47; the LINE_FAIL is `State.lineFails` (R5, R6, R9, R10, R12, R17, R20, R42, R51) and the drop, with
what stood in the dock's slot, `State.dropped`. Where the rules leave it open it follows the model's choice or
inference: assumptions 10, 12, 20, 22, 26 and 46. -/
def Obligations.BadTriesRetryFailAndDrop : Prop :=
  (∀ (s : State) (x : Exchange) (call : Bool), s.awaits x → (x.origin = .display ↔ ∃ p, x.cmd = .display p) →
      let d := x.dock
      let heard := { s with line := { s.line with call } }
      let counted := heard.erred d
      let last := 1 + s.settings.retryLimit ≤ x.tries
      let full := (s.dock d).online = true ∧ s.settings.dropThreshold ≤ (counted.lane d).window
      let free (u : State) : State := { u with line := { u.line with arbiter := .free } }
      let failed := if last then counted.updLane d fun y => { y with failures := min 3 (y.failures + 1) } else counted
      let ends (u : State) : Prop := ∃ t, exec (.replyTimeout call) s = .next t ∧ EndsAs u t
      (¬ last → ¬ full → ∃ t, exec (.replyTimeout call) s = .next t
        ∧ t.line.sent = commandFrame s.settings x.address x.cmd
        ∧ EndsAs { counted with line := { counted.line with arbiter := .exchange { x with tries := x.tries + 1 } } } t)
      ∧ (last → ¬ full → (failed.lane d).failures < 3 → ends ((free failed).lineFails d x.cmd))
      ∧ (full ∨ (last ∧ (failed.lane d).failures = 3) → ends (((free failed).lineFails d x.cmd).dropped d)))
    ∧ (∀ (s : State) (x : Exchange) (call : Bool), s.mode = .run → s.line.arbiter = .exchange x →
      let heard := { s with line := { s.line with arbiter := .free, call } }
      (x.discard = true → ∃ t, exec (.replyTimeout call) s = .next t ∧ EndsAs heard t)
      ∧ (x.discard = false → x.origin = .probe → ∃ t, exec (.replyTimeout call) s = .next t
        ∧ EndsAs ((heard.erred x.dock).updLane x.dock fun y =>
          { y with probeAt := some (s.uptime + s.settings.probeInterval) }) t))
    ∧ ∀ (s : State) (x : Exchange) (frame : List LineByte) (call : Bool), s.mode = .run → s.line.arbiter = .exchange x →
      let same (i : Instr) : Prop := ∃ t, exec (.badReply frame call) s = .next t ∧ exec i s = .next t
      (goodReply s.settings x frame = none → same (.replyTimeout call))
      ∧ (∀ b, goodReply s.settings x frame = some (.block b) → same (.query b call))
      ∧ ∀ st, goodReply s.settings x frame = some (.status st) → same (match x.cmd with
        | .query => .badReply frame call
        | .unlock _ => .unlock st call
        | .lock => .lock st call
        | .stamp _ => .writeTagStamp st call
        | .clear => .writeTagClear st call
        | .mark _ => .writeTagMark st call
        | .clearMark => .writeTagClearMark st call
        | .display _ => .showReply st call
        | .probe => .probe st call)

/-- R36, R39 and R40, with the drop of R46 (`State.dropped`). Where the rules leave it open it follows the model's choice or
inference: assumptions 7, 10, 13, 20, 22, 26 and 46. -/
def Obligations.CallRoundsFindTheirWinner : Prop :=
  ∀ s : State, s.mode = .run →
    (let heard := { s with line := { s.line with call := true } }
      ∃ t, exec .callWireAsserted s = .next t ∧ EndsAs heard t
        ∧ (s.line.arbiter = .free → s.line.rounds < 2 → t.line.arbiter = .round none ∧ t.line.rounds = s.line.rounds + 1
          ∧ t.line.sent = lineFrame s.settings.oddParity 0 0x10 [BitVec.ofNat 8 s.line.pointer]))
    ∧ (∀ (rank : BitVec 7) (call : Bool), 1 ≤ s.line.pointer → s.line.pointer ≤ 120 → s.line.arbiter = .round none →
      (rank.toNat < 120 →
        let w := (s.line.pointer + rank.toNat - 1) % 120 + 1
        exec (.callRoundArbitration rank call) s = .next { s with
          line := { s.line with arbiter := .round (some w), pointer := w % 120 + 1, call } })
      ∧ (120 ≤ rank.toNat → ∃ t, exec (.callRoundArbitration rank call) s = .next t
        ∧ EndsAs { s with line := { s.line with arbiter := .free, call } } t))
    ∧ (∀ (rank : BitVec 7) (call : Bool), s.line.arbiter ≠ .round none → exec (.callRoundArbitration rank call) s = .next s)
    ∧ (∀ (w : Nat) (call : Bool), s.line.arbiter = .round (some w) →
      let a := { s with line := { s.line with arbiter := .free, call } }
      ((∀ d : DockNo, s.map.get d ≠ some w) → ∃ t, exec (.newsTimeout call) s = .next t ∧ EndsAs a t)
      ∧ ∀ d : DockNo, (∀ e : DockNo, s.map.get e = some w ↔ e = d) →
        let u := a.erred d
        let full := (s.dock d).online = true ∧ s.settings.dropThreshold ≤ (u.lane d).window
        (¬ full → ∃ t, exec (.newsTimeout call) s = .next t ∧ EndsAs u t)
        ∧ (full → ∃ t, exec (.newsTimeout call) s = .next t ∧ EndsAs (u.dropped d) t))
    ∧ (∀ call : Bool, (∀ w : Nat, s.line.arbiter ≠ .round (some w)) → exec (.newsTimeout call) s = .next s
      ∧ ∀ frame : List LineByte, exec (.badNewsFrame frame call) s = .next s)
    ∧ ∀ (w : Nat) (frame : List LineByte) (call : Bool), s.line.arbiter = .round (some w) →
      let same (i : Instr) : Prop := ∃ t, exec (.badNewsFrame frame call) s = .next t ∧ exec i s = .next t
      (goodNews s.settings w frame = none → same (.newsTimeout call))
      ∧ ∀ seq item, goodNews s.settings w frame = some (seq, item) → same (match item with
        | .tap serial => .tap ⟨seq, call⟩ serial
        | .insert b => .insert ⟨seq, call⟩ b
        | .removed => .removed ⟨seq, call⟩
        | .faultKey c => .faultKey ⟨seq, call⟩ (BitVec.ofNat 8 c)
        | .jam => .jam ⟨seq, call⟩)

/-- R37 and R38, with R15, R18, R7 and R13 for INSERT, and R138 and R141 for FAULT_KEY; JAM is DockJams, REMOVED
RemovalCompletesARelease, TAP TapsDecideAtThePost. Where the rules leave it open it follows the model's choice or
inference: assumptions 13, 14, 15, 16, 22 and 36. -/
def Obligations.NewsIsRoutedOnce : Prop :=
  (∀ (s : State) (w : Nat) (n : NewsHead) (i : Instr), s.mode = .run → s.line.arbiter = .round (some w) →
      ((∃ serial, i = .tap n serial) ∨ (∃ b, i = .insert n b) ∨ i = .removed n ∨ (∃ c, i = .faultKey n c) ∨ i = .jam n) →
      let a := { s with line := { s.line with
        arbiter := .free, call := n.call, ack := lineFrame s.settings.oddParity w 0x11 [if n.seq then 1 else 0] } }
      ((∀ e : DockNo, s.map.get e ≠ some w) → ∃ t, exec i s = .next t ∧ EndsAs a t)
      ∧ ∀ d : DockNo, (∀ e : DockNo, s.map.get e = some w ↔ e = d) →
        ((s.lane d).lastSeq = some n.seq → ∃ t, exec i s = .next t ∧ EndsAs a t)
        ∧ ((s.lane d).lastSeq ≠ some n.seq → (s.dock d).link = .lost → ∃ t, exec i s = .next t
          ∧ EndsAs (a.updLane d fun y =>
            { y with
              lastSeq := some n.seq
              probeAt := if ∃ c, y.slot = some c ∧ c.origin = .probe then y.probeAt else some s.uptime }) t))
    ∧ ∀ (s : State) (d : DockNo) (w : Nat) (n : NewsHead), s.awaitsNews d w n →
      let k := s.dock d
      let a := s.newsTaken d w n
      (∀ b : StateBlock,
        let tag := (readBlock b).bind BikeReading.tag
        let ends (u : State) : Prop := ∃ t, exec (.insert n b) s = .next t ∧ EndsAs u t
        let lands (u : State) : State := u.updDock d fun q => q.arrives (s.arrivalNow d tag)
        (k.custody = .empty → s.unheld d tag → ends (lands a))
        ∧ (k.custody = .docked → ends (a.updDock d fun q => { q with steps := putStep .query q.steps }))
        ∧ (k.custody = .verify → ends (if queryThere s d then a else a.updDock d fun q => { q with steps := q.steps ++ [.query] }))
        ∧ (k.custody = .arriving ∨ k.custody = .jammed → ends a)
        ∧ ∀ r, k.custody = .releasing → k.release = some r →
          (r.phase ≠ .opened → ends a)
          ∧ (r.phase = .opened → (∀ t, tag = some t → k.bike = some t.bike) → ends (a.updDock d fun q =>
            { q with release := some { r with phase := .relocking }, steps := putStep .lock q.steps }))
          ∧ ∀ t, r.phase = .opened → tag = some t → k.bike ≠ some t.bike → s.unheld d tag →
            ends (lands (a.removed d r (match r.deadline with
              | none => false
              | some u => decide (u ≤ r.stopped.getD s.uptime)))))
      ∧ (k.custody = .verify → ∃ t, exec (.removed n) s = .next t ∧ EndsAs
        (if queryThere s d then a else a.updDock d fun q => { q with steps := q.steps ++ [.query] }) t)
      ∧ ∀ c : Byte,
        let ends (u : State) : Prop := ∃ t, exec (.faultKey n c) s = .next t ∧ EndsAs u t
        (c.toNat = 0 ∨ 9 < c.toNat → ends a)
        ∧ (1 ≤ c.toNat → c.toNat ≤ 9 →
          let bike := if k.custody = .docked then k.bike else none
          let reporter := if k.custody = .docked then match k.lastReturn with
              | some l => if (now s).value - l.time.value < s.settings.attribution then some l.serial else none
              | none => none
            else none
          let marks := s.faults.policyOf c.toNat = .quarantine ∧ bike.isSome = true
          ends ((if marks then a.applyMark d (.mark c.toNat) else a).takeReport
            { source := .postKey, code := c.toNat, dock := some d, bike, reporter }).1)

/-- R70 with side POST (R72, R74), and the staff tap of R123. Where the rules leave it open it follows the model's choice
or inference: assumptions 10 and 11. -/
def Obligations.TapsDecideAtThePost : Prop :=
  ∀ (s : State) (d : DockNo) (w : Nat) (n : NewsHead) (serial : Serial), s.awaitsNews d w n →
    let k := s.dock d
    let a := s.newsTaken d w n
    let ends (u : State) : Prop := ∃ t, exec (.tap n serial) s = .next t ∧ EndsAs u t
    let rides := (∃ c plan, MayRide s serial c plan) ∧ Available k ∧ RoomToReserve s
    let staff := Commissioned s ∧ ∃ c, findCard s serial = some c ∧ c.isStaff = true ∧ c.status = .active
      ∧ cardExpired s c = false
    let loads (m : SlotNo) (i : Nat) : Prop := k.hold = some ⟨m, i⟩ ∧ ∃ (x : Manifest) (l : MLine),
      s.manifests.get m = some x ∧ x.state = .active ∧ x.staff = some serial ∧ x.lines[i]? = some l ∧ l.action = .load
    let van (m : SlotNo) (i : Nat) : Prop := staff ∧ loads m i ∧ k.custody = .docked ∧ k.online = true
      ∧ (allDocks.filter fun e => decide ((s.dock e).custody = .releasing
        ∧ (s.dock e).release.any Release.isVan = true)).length < 4 ∧ RoomToReserve s
    s.Slotted →
    (∀ (c : Card) (plan : Fin 8) (clock : Nat), MayRide s serial c plan → s.clock = some clock → Available k →
      RoomToReserve s →
      let stamp : Stamp :=
        { station := s.settings.stationNumber, dock := d.val + 1, start := clock, serial, guest := c.isGuest, plan
          trip := if s.tripSerial < 4294967295 then s.tripSerial + 1 else 1 }
      ends (({ a with
        tripSerial := stamp.trip
        journal := { s.journal with reserved := s.journal.reserved + 1 } }.putCard
          { c with lastUse := some clock }).updDock d fun q =>
            { q with
              custody := .releasing
              release := some { purpose := .rental stamp .post, phase := .stamping, deadline := none, stopped := none
                                pendingMark := none, waiting := false }
              steps := putStep (.stamp stamp) q.steps }))
    ∧ (∀ m i, van m i → ends (({ a with
        journal := { s.journal with reserved := s.journal.reserved + 1 } }.updManifest m fun x =>
          { x with idleAt := some (s.uptime + s.settings.idleTimeout) }).updDock d fun q =>
            { q with
              custody := .releasing
              release := some { purpose := .van m i true, phase := .unlocking, deadline := none, stopped := none
                                pendingMark := none, waiting := false }
              steps := putStep (.unlock s.settings.vanWindow) q.steps }))
    ∧ (¬ rides → (∀ m i, ¬ van m i) → ends (a.updDock d fun q => { q with flash := some (s.uptime + 3) }))

/-- R12, R28, R44, R47, R49 and R50. Where the rules leave it open it follows the model's choice or inference: assumptions
5, 11 and 36. -/
def Obligations.LineTimersActWhenTheyAreDue : Prop :=
  (∀ (s : State) (d : DockNo), s.mode = .run →
      let k := s.dock d
      let reached (u : Option Nat) : Prop := ∃ t, u = some t ∧ t ≤ s.uptime
      (∀ r, k.release = some r →
        (k.online = true ∧ r.phase = .opened ∧ reached r.deadline → ∃ t, exec (.releaseDeadline d) s = .next t
          ∧ EndsAs (s.updDock d fun q =>
            { q with release := some { r with phase := .relocking }, steps := putStep .lock q.steps }) t)
        ∧ (¬ (k.online = true ∧ r.phase = .opened ∧ reached r.deadline) → exec (.releaseDeadline d) s = .next s))
      ∧ (k.release = none → exec (.releaseDeadline d) s = .next s)
      ∧ (reached k.flash → ∃ t, exec (.flashDeadline d) s = .next t
        ∧ EndsAs (s.updDock d fun q => { q with flash := none }) t)
      ∧ (¬ reached k.flash → exec (.flashDeadline d) s = .next s)
      ∧ (reached (s.lane d).windowEnd → exec (.dropWindowEnd d) s = .next (s.updLane d fun y =>
        { y with window := 0, windowEnd := none }))
      ∧ (¬ reached (s.lane d).windowEnd → exec (.dropWindowEnd d) s = .next s)
      ∧ (let probes := k.link = .lost ∧ reached (s.lane d).probeAt ∧ s.line.idleAt d = true
        (probes → ∃ t, exec (.probeTimer d) s = .next t ∧ EndsAs (s.updLane d fun y => { y with probeAt := none }) t
          ∧ ((t.lane d).slot = some ⟨.probe, .probe⟩
            ∨ ∃ x, t.line.arbiter = .exchange x ∧ x.dock = d ∧ x.cmd = .probe ∧ x.origin = .probe ∧ x.tries = 1))
        ∧ (¬ probes → exec (.probeTimer d) s = .next s))
      ∧ (s.line.sweepDue ≤ s.uptime → ∃ t, exec .sweepTimer s = .next t
        ∧ EndsAs { s with line := { s.line with sweepDue := s.uptime + s.settings.sweepPeriod } } t
        ∧ (∀ p, s.line.sweepAt = some p → t.line.sweepAt = none ∨ ∃ q, t.line.sweepAt = some q ∧ p ≤ q)
        ∧ (s.line.sweepAt = none → s.line.sweepOut = false →
          let busy (e : DockNo) : Prop := (t.lane e).slot.isSome = true ∨ ∃ x, t.line.arbiter = .exchange x ∧ x.dock = e
          (t.line.sweepAt = none ∧ ∀ e, (t.dock e).online = true → busy e)
          ∨ ∃ e, t.line.sweepAt = some (e.val + 2) ∧ (t.dock e).online = true
            ∧ ((t.lane e).slot = some ⟨.query, .sweep⟩
              ∨ ∃ x, t.line.arbiter = .exchange x ∧ x.dock = e ∧ x.cmd = .query ∧ x.origin = .sweep)
            ∧ ∀ c, c < e → (t.dock c).online = true → busy c))
      ∧ (s.uptime < s.line.sweepDue → exec .sweepTimer s = .next s))
    ∧ ∀ (w : Work) (p : Nat), w.line.sweepAt = some p → w.line.sweepOut = false →
      let asks (d : DockNo) : Prop := p ≤ d.val + 1 ∧ (w.docks.get d).online = true ∧ (w.line.lane d).slot = none
        ∧ ∀ x, w.line.arbiter = .exchange x → x.dock ≠ d
      ((∀ d, ¬ asks d) → sweepStep w = { w with line := { w.line with sweepAt := none } })
      ∧ ∀ d, asks d → (∀ e, e < d → ¬ asks e) → sweepStep w = { w with line := { w.line with
        lanes := w.line.lanes.set d.val { w.line.lane d with slot := some ⟨.query, .sweep⟩ } d.isLt
        queue := w.line.queue ++ [d], sweepAt := some (d.val + 2) } }

/-- Decode of encode for the frames of R31 and the tags and state blocks of R192, with what the parity check of R34
catches. -/
def Obligations.LineAndBlockEncodingsReadBack : Prop :=
  (∀ (odd check : Bool) (address : Nat) (kind : Byte) (payload : List Byte), address < 256 → payload.length ≤ 24 →
      readLineFrame check odd (lineFrame odd address kind payload) = some (BitVec.ofNat 8 address, kind, payload)
      ∧ ∀ (i : Nat) (j : Fin 9) (before after : List LineByte) (b : LineByte),
        lineFrame odd address kind payload = before ++ b :: after → before.length = i →
        readLineFrame true odd (before ++ (if j.val < 8 then { b with value := b.value ^^^ BitVec.ofNat 8 (2 ^ j.val) }
          else { b with parity := !b.parity }) :: after) = none)
    ∧ (∀ b : StateBlock, readStateBlock b.bytes = some b ∧ b.bytes.length = 24)
    ∧ (∀ bs : List Byte, bs.length ≠ 24 → readStateBlock bs = none)
    ∧ (∀ b : StateBlock,
      (b.flags.getLsbD 0 = false → readBlock b = none)
      ∧ (b.flags.getLsbD 0 = true → ∃ r, readBlock b = some r ∧ r.latched = b.flags.getLsbD 1
        ∧ (b.flags.getLsbD 2 = false → r.tag = none)
        ∧ (b.flags.getLsbD 2 = true → ∃ t, r.tag = some t ∧ t.bike = b.bike.toNat
          ∧ (t.stamp = if b.flags.getLsbD 3 then some (stampOfWords b.stamp) else none)
          ∧ (t.mark = if b.flags.getLsbD 4 = true ∧ 1 ≤ b.mark.toNat ∧ b.mark.toNat ≤ 15 then some b.mark.toNat
            else none))))
    ∧ ∀ st : Stamp, st.station < 65536 → st.dock < 256 → st.start < 4294967296 → st.trip < 4294967296 →
      stampOfWords (wordsOfStamp st) = st

/-- What R52, R57, R58, R80, R111, R112, R135, R136 and R180 say holds of these tables always. -/
def Obligations.StepKeepsTheTablesInRange : Prop :=
  ∀ s t : State, Machine.step s = .next t →
    (s.Priced → t.Priced) ∧ (s.Carded → t.Carded) ∧ (s.Mapped → t.Mapped)
      ∧ (s.Slotted → t.Slotted) ∧ (s.Reported → t.Reported)

/-- What R1, R2, R8, R15, R21 and R41 say holds of the dock table always. Where the rules leave it open it follows the
model's choice or inference: assumption 35. -/
def Obligations.StepKeepsTheDockTableInShape : Prop :=
  ∀ s t : State, s.Mapped → s.Docked → Machine.step s = .next t → t.Docked

/-- What R95, R97 and R98 say holds of the journal always. Where the rules leave it open it follows the model's choice or
inference: assumption 39. -/
def Obligations.StepKeepsTheJournalAccounted : Prop :=
  ∀ s t : State, s.Mapped → s.Docked → s.Journalled → Machine.step s = .next t → t.Journalled

/-- What R101, R112, R116, R121 and R131 say holds of docks and lines always. -/
def Obligations.StepKeepsHoldsCounted : Prop :=
  ∀ s t : State, s.Mapped → s.Docked → s.Slotted → s.Held → Machine.step s = .next t → t.Held

/-- The invariants of StepKeepsTheTablesInRange, StepKeepsTheDockTableInShape, StepKeepsHoldsCounted and
StepKeepsTheJournalAccounted at the first start's state. Where the rules leave it open it follows the model's choice
or inference: assumption 3. -/
def Obligations.InvariantsHoldAtReset : Prop :=
  let s := State.reset
  s.Priced ∧ s.Carded ∧ s.Mapped ∧ s.Slotted ∧ s.Reported ∧ s.Docked ∧ s.Held ∧ s.Journalled

end
end

