-- ==== Sys2Proof/Laws/State.lean ====
section
/-! SUPPORT. The fields of a state after each of the operations that change one part of it, and the pieces read back: a
dock, a lane, a port and a manifest after an update of one. -/

namespace Sys2Proof.Machine

/-! ## What an update of one part leaves of the others -/

@[simp] theorem updDock_pending (s : State) (d : DockNo) (f : Dock → Dock) : (s.updDock d f).pending = s.pending := rfl
@[simp] theorem updDock_freeUsed (s : State) (d : DockNo) (f : Dock → Dock) : (s.updDock d f).freeUsed = s.freeUsed := rfl
@[simp] theorem updDock_startSelects (s : State) (d : DockNo) (f : Dock → Dock) : (s.updDock d f).startSelects = s.startSelects := rfl
@[simp] theorem updDock_clock (s : State) (d : DockNo) (f : Dock → Dock) : (s.updDock d f).clock = s.clock := rfl
@[simp] theorem updDock_uptime (s : State) (d : DockNo) (f : Dock → Dock) : (s.updDock d f).uptime = s.uptime := rfl
@[simp] theorem updDock_mode (s : State) (d : DockNo) (f : Dock → Dock) : (s.updDock d f).mode = s.mode := rfl
@[simp] theorem updDock_resetLow (s : State) (d : DockNo) (f : Dock → Dock) : (s.updDock d f).resetLow = s.resetLow := rfl
@[simp] theorem updDock_marker (s : State) (d : DockNo) (f : Dock → Dock) : (s.updDock d f).marker = s.marker := rfl
@[simp] theorem updDock_started (s : State) (d : DockNo) (f : Dock → Dock) : (s.updDock d f).started = s.started := rfl
@[simp] theorem updDock_restart (s : State) (d : DockNo) (f : Dock → Dock) : (s.updDock d f).restart = s.restart := rfl
@[simp] theorem updDock_settings (s : State) (d : DockNo) (f : Dock → Dock) : (s.updDock d f).settings = s.settings := rfl
@[simp] theorem updDock_map (s : State) (d : DockNo) (f : Dock → Dock) : (s.updDock d f).map = s.map := rfl
@[simp] theorem updDock_line (s : State) (d : DockNo) (f : Dock → Dock) : (s.updDock d f).line = s.line := rfl
@[simp] theorem updDock_cards (s : State) (d : DockNo) (f : Dock → Dock) : (s.updDock d f).cards = s.cards := rfl
@[simp] theorem updDock_nextGuest (s : State) (d : DockNo) (f : Dock → Dock) : (s.updDock d f).nextGuest = s.nextGuest := rfl
@[simp] theorem updDock_tripSerial (s : State) (d : DockNo) (f : Dock → Dock) : (s.updDock d f).tripSerial = s.tripSerial := rfl
@[simp] theorem updDock_tariffs (s : State) (d : DockNo) (f : Dock → Dock) : (s.updDock d f).tariffs = s.tariffs := rfl
@[simp] theorem updDock_journal (s : State) (d : DockNo) (f : Dock → Dock) : (s.updDock d f).journal = s.journal := rfl
@[simp] theorem updDock_manifests (s : State) (d : DockNo) (f : Dock → Dock) : (s.updDock d f).manifests = s.manifests := rfl
@[simp] theorem updDock_vanWaits (s : State) (d : DockNo) (f : Dock → Dock) : (s.updDock d f).vanWaits = s.vanWaits := rfl
@[simp] theorem updDock_faults (s : State) (d : DockNo) (f : Dock → Dock) : (s.updDock d f).faults = s.faults := rfl
@[simp] theorem updDock_ports (s : State) (d : DockNo) (f : Dock → Dock) : (s.updDock d f).ports = s.ports := rfl

@[simp] theorem updLane_pending (s : State) (d : DockNo) (f : Lane → Lane) : (s.updLane d f).pending = s.pending := rfl
@[simp] theorem updLane_freeUsed (s : State) (d : DockNo) (f : Lane → Lane) : (s.updLane d f).freeUsed = s.freeUsed := rfl
@[simp] theorem updLane_startSelects (s : State) (d : DockNo) (f : Lane → Lane) : (s.updLane d f).startSelects = s.startSelects := rfl
@[simp] theorem updLane_clock (s : State) (d : DockNo) (f : Lane → Lane) : (s.updLane d f).clock = s.clock := rfl
@[simp] theorem updLane_uptime (s : State) (d : DockNo) (f : Lane → Lane) : (s.updLane d f).uptime = s.uptime := rfl
@[simp] theorem updLane_mode (s : State) (d : DockNo) (f : Lane → Lane) : (s.updLane d f).mode = s.mode := rfl
@[simp] theorem updLane_resetLow (s : State) (d : DockNo) (f : Lane → Lane) : (s.updLane d f).resetLow = s.resetLow := rfl
@[simp] theorem updLane_marker (s : State) (d : DockNo) (f : Lane → Lane) : (s.updLane d f).marker = s.marker := rfl
@[simp] theorem updLane_started (s : State) (d : DockNo) (f : Lane → Lane) : (s.updLane d f).started = s.started := rfl
@[simp] theorem updLane_restart (s : State) (d : DockNo) (f : Lane → Lane) : (s.updLane d f).restart = s.restart := rfl
@[simp] theorem updLane_settings (s : State) (d : DockNo) (f : Lane → Lane) : (s.updLane d f).settings = s.settings := rfl
@[simp] theorem updLane_map (s : State) (d : DockNo) (f : Lane → Lane) : (s.updLane d f).map = s.map := rfl
@[simp] theorem updLane_docks (s : State) (d : DockNo) (f : Lane → Lane) : (s.updLane d f).docks = s.docks := rfl
@[simp] theorem updLane_cards (s : State) (d : DockNo) (f : Lane → Lane) : (s.updLane d f).cards = s.cards := rfl
@[simp] theorem updLane_nextGuest (s : State) (d : DockNo) (f : Lane → Lane) : (s.updLane d f).nextGuest = s.nextGuest := rfl
@[simp] theorem updLane_tripSerial (s : State) (d : DockNo) (f : Lane → Lane) : (s.updLane d f).tripSerial = s.tripSerial := rfl
@[simp] theorem updLane_tariffs (s : State) (d : DockNo) (f : Lane → Lane) : (s.updLane d f).tariffs = s.tariffs := rfl
@[simp] theorem updLane_journal (s : State) (d : DockNo) (f : Lane → Lane) : (s.updLane d f).journal = s.journal := rfl
@[simp] theorem updLane_manifests (s : State) (d : DockNo) (f : Lane → Lane) : (s.updLane d f).manifests = s.manifests := rfl
@[simp] theorem updLane_vanWaits (s : State) (d : DockNo) (f : Lane → Lane) : (s.updLane d f).vanWaits = s.vanWaits := rfl
@[simp] theorem updLane_faults (s : State) (d : DockNo) (f : Lane → Lane) : (s.updLane d f).faults = s.faults := rfl
@[simp] theorem updLane_ports (s : State) (d : DockNo) (f : Lane → Lane) : (s.updLane d f).ports = s.ports := rfl

@[simp] theorem updPort_pending (s : State) (p : PortId) (f : Port → Port) : (s.updPort p f).pending = s.pending := rfl
@[simp] theorem updPort_freeUsed (s : State) (p : PortId) (f : Port → Port) : (s.updPort p f).freeUsed = s.freeUsed := rfl
@[simp] theorem updPort_startSelects (s : State) (p : PortId) (f : Port → Port) : (s.updPort p f).startSelects = s.startSelects := rfl
@[simp] theorem updPort_clock (s : State) (p : PortId) (f : Port → Port) : (s.updPort p f).clock = s.clock := rfl
@[simp] theorem updPort_uptime (s : State) (p : PortId) (f : Port → Port) : (s.updPort p f).uptime = s.uptime := rfl
@[simp] theorem updPort_mode (s : State) (p : PortId) (f : Port → Port) : (s.updPort p f).mode = s.mode := rfl
@[simp] theorem updPort_resetLow (s : State) (p : PortId) (f : Port → Port) : (s.updPort p f).resetLow = s.resetLow := rfl
@[simp] theorem updPort_marker (s : State) (p : PortId) (f : Port → Port) : (s.updPort p f).marker = s.marker := rfl
@[simp] theorem updPort_started (s : State) (p : PortId) (f : Port → Port) : (s.updPort p f).started = s.started := rfl
@[simp] theorem updPort_restart (s : State) (p : PortId) (f : Port → Port) : (s.updPort p f).restart = s.restart := rfl
@[simp] theorem updPort_settings (s : State) (p : PortId) (f : Port → Port) : (s.updPort p f).settings = s.settings := rfl
@[simp] theorem updPort_map (s : State) (p : PortId) (f : Port → Port) : (s.updPort p f).map = s.map := rfl
@[simp] theorem updPort_docks (s : State) (p : PortId) (f : Port → Port) : (s.updPort p f).docks = s.docks := rfl
@[simp] theorem updPort_line (s : State) (p : PortId) (f : Port → Port) : (s.updPort p f).line = s.line := rfl
@[simp] theorem updPort_cards (s : State) (p : PortId) (f : Port → Port) : (s.updPort p f).cards = s.cards := rfl
@[simp] theorem updPort_nextGuest (s : State) (p : PortId) (f : Port → Port) : (s.updPort p f).nextGuest = s.nextGuest := rfl
@[simp] theorem updPort_tripSerial (s : State) (p : PortId) (f : Port → Port) : (s.updPort p f).tripSerial = s.tripSerial := rfl
@[simp] theorem updPort_tariffs (s : State) (p : PortId) (f : Port → Port) : (s.updPort p f).tariffs = s.tariffs := rfl
@[simp] theorem updPort_journal (s : State) (p : PortId) (f : Port → Port) : (s.updPort p f).journal = s.journal := rfl
@[simp] theorem updPort_manifests (s : State) (p : PortId) (f : Port → Port) : (s.updPort p f).manifests = s.manifests := rfl
@[simp] theorem updPort_vanWaits (s : State) (p : PortId) (f : Port → Port) : (s.updPort p f).vanWaits = s.vanWaits := rfl
@[simp] theorem updPort_faults (s : State) (p : PortId) (f : Port → Port) : (s.updPort p f).faults = s.faults := rfl

@[simp] theorem select_pending (s : State) (p : PortId) : (s.select p).pending = s.pending := rfl
@[simp] theorem select_freeUsed (s : State) (p : PortId) : (s.select p).freeUsed = s.freeUsed := rfl
@[simp] theorem select_startSelects (s : State) (p : PortId) : (s.select p).startSelects = s.startSelects := rfl
@[simp] theorem select_clock (s : State) (p : PortId) : (s.select p).clock = s.clock := rfl
@[simp] theorem select_uptime (s : State) (p : PortId) : (s.select p).uptime = s.uptime := rfl
@[simp] theorem select_mode (s : State) (p : PortId) : (s.select p).mode = s.mode := rfl
@[simp] theorem select_resetLow (s : State) (p : PortId) : (s.select p).resetLow = s.resetLow := rfl
@[simp] theorem select_marker (s : State) (p : PortId) : (s.select p).marker = s.marker := rfl
@[simp] theorem select_started (s : State) (p : PortId) : (s.select p).started = s.started := rfl
@[simp] theorem select_restart (s : State) (p : PortId) : (s.select p).restart = s.restart := rfl
@[simp] theorem select_settings (s : State) (p : PortId) : (s.select p).settings = s.settings := rfl
@[simp] theorem select_map (s : State) (p : PortId) : (s.select p).map = s.map := rfl
@[simp] theorem select_docks (s : State) (p : PortId) : (s.select p).docks = s.docks := rfl
@[simp] theorem select_line (s : State) (p : PortId) : (s.select p).line = s.line := rfl
@[simp] theorem select_cards (s : State) (p : PortId) : (s.select p).cards = s.cards := rfl
@[simp] theorem select_nextGuest (s : State) (p : PortId) : (s.select p).nextGuest = s.nextGuest := rfl
@[simp] theorem select_tripSerial (s : State) (p : PortId) : (s.select p).tripSerial = s.tripSerial := rfl
@[simp] theorem select_tariffs (s : State) (p : PortId) : (s.select p).tariffs = s.tariffs := rfl
@[simp] theorem select_journal (s : State) (p : PortId) : (s.select p).journal = s.journal := rfl
@[simp] theorem select_manifests (s : State) (p : PortId) : (s.select p).manifests = s.manifests := rfl
@[simp] theorem select_vanWaits (s : State) (p : PortId) : (s.select p).vanWaits = s.vanWaits := rfl
@[simp] theorem select_faults (s : State) (p : PortId) : (s.select p).faults = s.faults := rfl

@[simp] theorem updManifest_pending (s : State) (m : SlotNo) (f : Manifest → Manifest) : (s.updManifest m f).pending = s.pending := rfl
@[simp] theorem updManifest_freeUsed (s : State) (m : SlotNo) (f : Manifest → Manifest) : (s.updManifest m f).freeUsed = s.freeUsed := rfl
@[simp] theorem updManifest_startSelects (s : State) (m : SlotNo) (f : Manifest → Manifest) : (s.updManifest m f).startSelects = s.startSelects := rfl
@[simp] theorem updManifest_clock (s : State) (m : SlotNo) (f : Manifest → Manifest) : (s.updManifest m f).clock = s.clock := rfl
@[simp] theorem updManifest_uptime (s : State) (m : SlotNo) (f : Manifest → Manifest) : (s.updManifest m f).uptime = s.uptime := rfl
@[simp] theorem updManifest_mode (s : State) (m : SlotNo) (f : Manifest → Manifest) : (s.updManifest m f).mode = s.mode := rfl
@[simp] theorem updManifest_resetLow (s : State) (m : SlotNo) (f : Manifest → Manifest) : (s.updManifest m f).resetLow = s.resetLow := rfl
@[simp] theorem updManifest_marker (s : State) (m : SlotNo) (f : Manifest → Manifest) : (s.updManifest m f).marker = s.marker := rfl
@[simp] theorem updManifest_started (s : State) (m : SlotNo) (f : Manifest → Manifest) : (s.updManifest m f).started = s.started := rfl
@[simp] theorem updManifest_restart (s : State) (m : SlotNo) (f : Manifest → Manifest) : (s.updManifest m f).restart = s.restart := rfl
@[simp] theorem updManifest_settings (s : State) (m : SlotNo) (f : Manifest → Manifest) : (s.updManifest m f).settings = s.settings := rfl
@[simp] theorem updManifest_map (s : State) (m : SlotNo) (f : Manifest → Manifest) : (s.updManifest m f).map = s.map := rfl
@[simp] theorem updManifest_docks (s : State) (m : SlotNo) (f : Manifest → Manifest) : (s.updManifest m f).docks = s.docks := rfl
@[simp] theorem updManifest_line (s : State) (m : SlotNo) (f : Manifest → Manifest) : (s.updManifest m f).line = s.line := rfl
@[simp] theorem updManifest_cards (s : State) (m : SlotNo) (f : Manifest → Manifest) : (s.updManifest m f).cards = s.cards := rfl
@[simp] theorem updManifest_nextGuest (s : State) (m : SlotNo) (f : Manifest → Manifest) : (s.updManifest m f).nextGuest = s.nextGuest := rfl
@[simp] theorem updManifest_tripSerial (s : State) (m : SlotNo) (f : Manifest → Manifest) : (s.updManifest m f).tripSerial = s.tripSerial := rfl
@[simp] theorem updManifest_tariffs (s : State) (m : SlotNo) (f : Manifest → Manifest) : (s.updManifest m f).tariffs = s.tariffs := rfl
@[simp] theorem updManifest_journal (s : State) (m : SlotNo) (f : Manifest → Manifest) : (s.updManifest m f).journal = s.journal := rfl
@[simp] theorem updManifest_vanWaits (s : State) (m : SlotNo) (f : Manifest → Manifest) : (s.updManifest m f).vanWaits = s.vanWaits := rfl
@[simp] theorem updManifest_faults (s : State) (m : SlotNo) (f : Manifest → Manifest) : (s.updManifest m f).faults = s.faults := rfl
@[simp] theorem updManifest_ports (s : State) (m : SlotNo) (f : Manifest → Manifest) : (s.updManifest m f).ports = s.ports := rfl

@[simp] theorem updLine_pending (s : State) (m : SlotNo) (i : Nat) (f : MLine → MLine) : (s.updLine m i f).pending = s.pending := rfl
@[simp] theorem updLine_freeUsed (s : State) (m : SlotNo) (i : Nat) (f : MLine → MLine) : (s.updLine m i f).freeUsed = s.freeUsed := rfl
@[simp] theorem updLine_startSelects (s : State) (m : SlotNo) (i : Nat) (f : MLine → MLine) : (s.updLine m i f).startSelects = s.startSelects := rfl
@[simp] theorem updLine_clock (s : State) (m : SlotNo) (i : Nat) (f : MLine → MLine) : (s.updLine m i f).clock = s.clock := rfl
@[simp] theorem updLine_uptime (s : State) (m : SlotNo) (i : Nat) (f : MLine → MLine) : (s.updLine m i f).uptime = s.uptime := rfl
@[simp] theorem updLine_mode (s : State) (m : SlotNo) (i : Nat) (f : MLine → MLine) : (s.updLine m i f).mode = s.mode := rfl
@[simp] theorem updLine_resetLow (s : State) (m : SlotNo) (i : Nat) (f : MLine → MLine) : (s.updLine m i f).resetLow = s.resetLow := rfl
@[simp] theorem updLine_marker (s : State) (m : SlotNo) (i : Nat) (f : MLine → MLine) : (s.updLine m i f).marker = s.marker := rfl
@[simp] theorem updLine_started (s : State) (m : SlotNo) (i : Nat) (f : MLine → MLine) : (s.updLine m i f).started = s.started := rfl
@[simp] theorem updLine_restart (s : State) (m : SlotNo) (i : Nat) (f : MLine → MLine) : (s.updLine m i f).restart = s.restart := rfl
@[simp] theorem updLine_settings (s : State) (m : SlotNo) (i : Nat) (f : MLine → MLine) : (s.updLine m i f).settings = s.settings := rfl
@[simp] theorem updLine_map (s : State) (m : SlotNo) (i : Nat) (f : MLine → MLine) : (s.updLine m i f).map = s.map := rfl
@[simp] theorem updLine_docks (s : State) (m : SlotNo) (i : Nat) (f : MLine → MLine) : (s.updLine m i f).docks = s.docks := rfl
@[simp] theorem updLine_line (s : State) (m : SlotNo) (i : Nat) (f : MLine → MLine) : (s.updLine m i f).line = s.line := rfl
@[simp] theorem updLine_cards (s : State) (m : SlotNo) (i : Nat) (f : MLine → MLine) : (s.updLine m i f).cards = s.cards := rfl
@[simp] theorem updLine_nextGuest (s : State) (m : SlotNo) (i : Nat) (f : MLine → MLine) : (s.updLine m i f).nextGuest = s.nextGuest := rfl
@[simp] theorem updLine_tripSerial (s : State) (m : SlotNo) (i : Nat) (f : MLine → MLine) : (s.updLine m i f).tripSerial = s.tripSerial := rfl
@[simp] theorem updLine_tariffs (s : State) (m : SlotNo) (i : Nat) (f : MLine → MLine) : (s.updLine m i f).tariffs = s.tariffs := rfl
@[simp] theorem updLine_journal (s : State) (m : SlotNo) (i : Nat) (f : MLine → MLine) : (s.updLine m i f).journal = s.journal := rfl
@[simp] theorem updLine_vanWaits (s : State) (m : SlotNo) (i : Nat) (f : MLine → MLine) : (s.updLine m i f).vanWaits = s.vanWaits := rfl
@[simp] theorem updLine_faults (s : State) (m : SlotNo) (i : Nat) (f : MLine → MLine) : (s.updLine m i f).faults = s.faults := rfl
@[simp] theorem updLine_ports (s : State) (m : SlotNo) (i : Nat) (f : MLine → MLine) : (s.updLine m i f).ports = s.ports := rfl

@[simp] theorem withHolding_pending (s : State) (h : Holding) : (s.withHolding h).pending = s.pending := rfl
@[simp] theorem withHolding_freeUsed (s : State) (h : Holding) : (s.withHolding h).freeUsed = s.freeUsed := rfl
@[simp] theorem withHolding_startSelects (s : State) (h : Holding) : (s.withHolding h).startSelects = s.startSelects := rfl
@[simp] theorem withHolding_clock (s : State) (h : Holding) : (s.withHolding h).clock = s.clock := rfl
@[simp] theorem withHolding_uptime (s : State) (h : Holding) : (s.withHolding h).uptime = s.uptime := rfl
@[simp] theorem withHolding_mode (s : State) (h : Holding) : (s.withHolding h).mode = s.mode := rfl
@[simp] theorem withHolding_resetLow (s : State) (h : Holding) : (s.withHolding h).resetLow = s.resetLow := rfl
@[simp] theorem withHolding_marker (s : State) (h : Holding) : (s.withHolding h).marker = s.marker := rfl
@[simp] theorem withHolding_started (s : State) (h : Holding) : (s.withHolding h).started = s.started := rfl
@[simp] theorem withHolding_restart (s : State) (h : Holding) : (s.withHolding h).restart = s.restart := rfl
@[simp] theorem withHolding_settings (s : State) (h : Holding) : (s.withHolding h).settings = s.settings := rfl
@[simp] theorem withHolding_map (s : State) (h : Holding) : (s.withHolding h).map = s.map := rfl
@[simp] theorem withHolding_line (s : State) (h : Holding) : (s.withHolding h).line = s.line := rfl
@[simp] theorem withHolding_cards (s : State) (h : Holding) : (s.withHolding h).cards = s.cards := rfl
@[simp] theorem withHolding_nextGuest (s : State) (h : Holding) : (s.withHolding h).nextGuest = s.nextGuest := rfl
@[simp] theorem withHolding_tripSerial (s : State) (h : Holding) : (s.withHolding h).tripSerial = s.tripSerial := rfl
@[simp] theorem withHolding_tariffs (s : State) (h : Holding) : (s.withHolding h).tariffs = s.tariffs := rfl
@[simp] theorem withHolding_journal (s : State) (h : Holding) : (s.withHolding h).journal = s.journal := rfl
@[simp] theorem withHolding_vanWaits (s : State) (h : Holding) : (s.withHolding h).vanWaits = s.vanWaits := rfl
@[simp] theorem withHolding_faults (s : State) (h : Holding) : (s.withHolding h).faults = s.faults := rfl
@[simp] theorem withHolding_ports (s : State) (h : Holding) : (s.withHolding h).ports = s.ports := rfl

@[simp] theorem noticeAll_pending (s : State) (i : Nat) : (s.noticeAll i).pending = s.pending := rfl
@[simp] theorem noticeAll_freeUsed (s : State) (i : Nat) : (s.noticeAll i).freeUsed = s.freeUsed := rfl
@[simp] theorem noticeAll_startSelects (s : State) (i : Nat) : (s.noticeAll i).startSelects = s.startSelects := rfl
@[simp] theorem noticeAll_clock (s : State) (i : Nat) : (s.noticeAll i).clock = s.clock := rfl
@[simp] theorem noticeAll_uptime (s : State) (i : Nat) : (s.noticeAll i).uptime = s.uptime := rfl
@[simp] theorem noticeAll_mode (s : State) (i : Nat) : (s.noticeAll i).mode = s.mode := rfl
@[simp] theorem noticeAll_resetLow (s : State) (i : Nat) : (s.noticeAll i).resetLow = s.resetLow := rfl
@[simp] theorem noticeAll_marker (s : State) (i : Nat) : (s.noticeAll i).marker = s.marker := rfl
@[simp] theorem noticeAll_started (s : State) (i : Nat) : (s.noticeAll i).started = s.started := rfl
@[simp] theorem noticeAll_restart (s : State) (i : Nat) : (s.noticeAll i).restart = s.restart := rfl
@[simp] theorem noticeAll_settings (s : State) (i : Nat) : (s.noticeAll i).settings = s.settings := rfl
@[simp] theorem noticeAll_map (s : State) (i : Nat) : (s.noticeAll i).map = s.map := rfl
@[simp] theorem noticeAll_docks (s : State) (i : Nat) : (s.noticeAll i).docks = s.docks := rfl
@[simp] theorem noticeAll_line (s : State) (i : Nat) : (s.noticeAll i).line = s.line := rfl
@[simp] theorem noticeAll_cards (s : State) (i : Nat) : (s.noticeAll i).cards = s.cards := rfl
@[simp] theorem noticeAll_nextGuest (s : State) (i : Nat) : (s.noticeAll i).nextGuest = s.nextGuest := rfl
@[simp] theorem noticeAll_tripSerial (s : State) (i : Nat) : (s.noticeAll i).tripSerial = s.tripSerial := rfl
@[simp] theorem noticeAll_tariffs (s : State) (i : Nat) : (s.noticeAll i).tariffs = s.tariffs := rfl
@[simp] theorem noticeAll_journal (s : State) (i : Nat) : (s.noticeAll i).journal = s.journal := rfl
@[simp] theorem noticeAll_manifests (s : State) (i : Nat) : (s.noticeAll i).manifests = s.manifests := rfl
@[simp] theorem noticeAll_vanWaits (s : State) (i : Nat) : (s.noticeAll i).vanWaits = s.vanWaits := rfl
@[simp] theorem noticeAll_faults (s : State) (i : Nat) : (s.noticeAll i).faults = s.faults := rfl

@[simp] theorem record_pending (s : State) (body : JournalBody) (time : Time) (dock bike : Nat) (flags : JournalFlags) : (s.record body time dock bike flags).pending = s.pending := rfl
@[simp] theorem record_freeUsed (s : State) (body : JournalBody) (time : Time) (dock bike : Nat) (flags : JournalFlags) : (s.record body time dock bike flags).freeUsed = s.freeUsed := rfl
@[simp] theorem record_startSelects (s : State) (body : JournalBody) (time : Time) (dock bike : Nat) (flags : JournalFlags) : (s.record body time dock bike flags).startSelects = s.startSelects := rfl
@[simp] theorem record_clock (s : State) (body : JournalBody) (time : Time) (dock bike : Nat) (flags : JournalFlags) : (s.record body time dock bike flags).clock = s.clock := rfl
@[simp] theorem record_uptime (s : State) (body : JournalBody) (time : Time) (dock bike : Nat) (flags : JournalFlags) : (s.record body time dock bike flags).uptime = s.uptime := rfl
@[simp] theorem record_mode (s : State) (body : JournalBody) (time : Time) (dock bike : Nat) (flags : JournalFlags) : (s.record body time dock bike flags).mode = s.mode := rfl
@[simp] theorem record_resetLow (s : State) (body : JournalBody) (time : Time) (dock bike : Nat) (flags : JournalFlags) : (s.record body time dock bike flags).resetLow = s.resetLow := rfl
@[simp] theorem record_marker (s : State) (body : JournalBody) (time : Time) (dock bike : Nat) (flags : JournalFlags) : (s.record body time dock bike flags).marker = s.marker := rfl
@[simp] theorem record_started (s : State) (body : JournalBody) (time : Time) (dock bike : Nat) (flags : JournalFlags) : (s.record body time dock bike flags).started = s.started := rfl
@[simp] theorem record_restart (s : State) (body : JournalBody) (time : Time) (dock bike : Nat) (flags : JournalFlags) : (s.record body time dock bike flags).restart = s.restart := rfl
@[simp] theorem record_settings (s : State) (body : JournalBody) (time : Time) (dock bike : Nat) (flags : JournalFlags) : (s.record body time dock bike flags).settings = s.settings := rfl
@[simp] theorem record_map (s : State) (body : JournalBody) (time : Time) (dock bike : Nat) (flags : JournalFlags) : (s.record body time dock bike flags).map = s.map := rfl
@[simp] theorem record_docks (s : State) (body : JournalBody) (time : Time) (dock bike : Nat) (flags : JournalFlags) : (s.record body time dock bike flags).docks = s.docks := rfl
@[simp] theorem record_line (s : State) (body : JournalBody) (time : Time) (dock bike : Nat) (flags : JournalFlags) : (s.record body time dock bike flags).line = s.line := rfl
@[simp] theorem record_cards (s : State) (body : JournalBody) (time : Time) (dock bike : Nat) (flags : JournalFlags) : (s.record body time dock bike flags).cards = s.cards := rfl
@[simp] theorem record_nextGuest (s : State) (body : JournalBody) (time : Time) (dock bike : Nat) (flags : JournalFlags) : (s.record body time dock bike flags).nextGuest = s.nextGuest := rfl
@[simp] theorem record_tripSerial (s : State) (body : JournalBody) (time : Time) (dock bike : Nat) (flags : JournalFlags) : (s.record body time dock bike flags).tripSerial = s.tripSerial := rfl
@[simp] theorem record_tariffs (s : State) (body : JournalBody) (time : Time) (dock bike : Nat) (flags : JournalFlags) : (s.record body time dock bike flags).tariffs = s.tariffs := rfl
@[simp] theorem record_manifests (s : State) (body : JournalBody) (time : Time) (dock bike : Nat) (flags : JournalFlags) : (s.record body time dock bike flags).manifests = s.manifests := rfl
@[simp] theorem record_vanWaits (s : State) (body : JournalBody) (time : Time) (dock bike : Nat) (flags : JournalFlags) : (s.record body time dock bike flags).vanWaits = s.vanWaits := rfl
@[simp] theorem record_faults (s : State) (body : JournalBody) (time : Time) (dock bike : Nat) (flags : JournalFlags) : (s.record body time dock bike flags).faults = s.faults := rfl
@[simp] theorem record_ports (s : State) (body : JournalBody) (time : Time) (dock bike : Nat) (flags : JournalFlags) : (s.record body time dock bike flags).ports = s.ports := rfl

@[simp] theorem reserve_pending (s : State) : (s.reserve).pending = s.pending := rfl
@[simp] theorem reserve_freeUsed (s : State) : (s.reserve).freeUsed = s.freeUsed := rfl
@[simp] theorem reserve_startSelects (s : State) : (s.reserve).startSelects = s.startSelects := rfl
@[simp] theorem reserve_clock (s : State) : (s.reserve).clock = s.clock := rfl
@[simp] theorem reserve_uptime (s : State) : (s.reserve).uptime = s.uptime := rfl
@[simp] theorem reserve_mode (s : State) : (s.reserve).mode = s.mode := rfl
@[simp] theorem reserve_resetLow (s : State) : (s.reserve).resetLow = s.resetLow := rfl
@[simp] theorem reserve_marker (s : State) : (s.reserve).marker = s.marker := rfl
@[simp] theorem reserve_started (s : State) : (s.reserve).started = s.started := rfl
@[simp] theorem reserve_restart (s : State) : (s.reserve).restart = s.restart := rfl
@[simp] theorem reserve_settings (s : State) : (s.reserve).settings = s.settings := rfl
@[simp] theorem reserve_map (s : State) : (s.reserve).map = s.map := rfl
@[simp] theorem reserve_docks (s : State) : (s.reserve).docks = s.docks := rfl
@[simp] theorem reserve_line (s : State) : (s.reserve).line = s.line := rfl
@[simp] theorem reserve_cards (s : State) : (s.reserve).cards = s.cards := rfl
@[simp] theorem reserve_nextGuest (s : State) : (s.reserve).nextGuest = s.nextGuest := rfl
@[simp] theorem reserve_tripSerial (s : State) : (s.reserve).tripSerial = s.tripSerial := rfl
@[simp] theorem reserve_tariffs (s : State) : (s.reserve).tariffs = s.tariffs := rfl
@[simp] theorem reserve_manifests (s : State) : (s.reserve).manifests = s.manifests := rfl
@[simp] theorem reserve_vanWaits (s : State) : (s.reserve).vanWaits = s.vanWaits := rfl
@[simp] theorem reserve_faults (s : State) : (s.reserve).faults = s.faults := rfl
@[simp] theorem reserve_ports (s : State) : (s.reserve).ports = s.ports := rfl

@[simp] theorem unreserve_pending (s : State) : (s.unreserve).pending = s.pending := rfl
@[simp] theorem unreserve_freeUsed (s : State) : (s.unreserve).freeUsed = s.freeUsed := rfl
@[simp] theorem unreserve_startSelects (s : State) : (s.unreserve).startSelects = s.startSelects := rfl
@[simp] theorem unreserve_clock (s : State) : (s.unreserve).clock = s.clock := rfl
@[simp] theorem unreserve_uptime (s : State) : (s.unreserve).uptime = s.uptime := rfl
@[simp] theorem unreserve_mode (s : State) : (s.unreserve).mode = s.mode := rfl
@[simp] theorem unreserve_resetLow (s : State) : (s.unreserve).resetLow = s.resetLow := rfl
@[simp] theorem unreserve_marker (s : State) : (s.unreserve).marker = s.marker := rfl
@[simp] theorem unreserve_started (s : State) : (s.unreserve).started = s.started := rfl
@[simp] theorem unreserve_restart (s : State) : (s.unreserve).restart = s.restart := rfl
@[simp] theorem unreserve_settings (s : State) : (s.unreserve).settings = s.settings := rfl
@[simp] theorem unreserve_map (s : State) : (s.unreserve).map = s.map := rfl
@[simp] theorem unreserve_docks (s : State) : (s.unreserve).docks = s.docks := rfl
@[simp] theorem unreserve_line (s : State) : (s.unreserve).line = s.line := rfl
@[simp] theorem unreserve_cards (s : State) : (s.unreserve).cards = s.cards := rfl
@[simp] theorem unreserve_nextGuest (s : State) : (s.unreserve).nextGuest = s.nextGuest := rfl
@[simp] theorem unreserve_tripSerial (s : State) : (s.unreserve).tripSerial = s.tripSerial := rfl
@[simp] theorem unreserve_tariffs (s : State) : (s.unreserve).tariffs = s.tariffs := rfl
@[simp] theorem unreserve_manifests (s : State) : (s.unreserve).manifests = s.manifests := rfl
@[simp] theorem unreserve_vanWaits (s : State) : (s.unreserve).vanWaits = s.vanWaits := rfl
@[simp] theorem unreserve_faults (s : State) : (s.unreserve).faults = s.faults := rfl
@[simp] theorem unreserve_ports (s : State) : (s.unreserve).ports = s.ports := rfl

@[simp] theorem putCard_pending (s : State) (c : Card) : (s.putCard c).pending = s.pending := rfl
@[simp] theorem putCard_freeUsed (s : State) (c : Card) : (s.putCard c).freeUsed = s.freeUsed := rfl
@[simp] theorem putCard_startSelects (s : State) (c : Card) : (s.putCard c).startSelects = s.startSelects := rfl
@[simp] theorem putCard_clock (s : State) (c : Card) : (s.putCard c).clock = s.clock := rfl
@[simp] theorem putCard_uptime (s : State) (c : Card) : (s.putCard c).uptime = s.uptime := rfl
@[simp] theorem putCard_mode (s : State) (c : Card) : (s.putCard c).mode = s.mode := rfl
@[simp] theorem putCard_resetLow (s : State) (c : Card) : (s.putCard c).resetLow = s.resetLow := rfl
@[simp] theorem putCard_marker (s : State) (c : Card) : (s.putCard c).marker = s.marker := rfl
@[simp] theorem putCard_started (s : State) (c : Card) : (s.putCard c).started = s.started := rfl
@[simp] theorem putCard_restart (s : State) (c : Card) : (s.putCard c).restart = s.restart := rfl
@[simp] theorem putCard_settings (s : State) (c : Card) : (s.putCard c).settings = s.settings := rfl
@[simp] theorem putCard_map (s : State) (c : Card) : (s.putCard c).map = s.map := rfl
@[simp] theorem putCard_docks (s : State) (c : Card) : (s.putCard c).docks = s.docks := rfl
@[simp] theorem putCard_line (s : State) (c : Card) : (s.putCard c).line = s.line := rfl
@[simp] theorem putCard_nextGuest (s : State) (c : Card) : (s.putCard c).nextGuest = s.nextGuest := rfl
@[simp] theorem putCard_tripSerial (s : State) (c : Card) : (s.putCard c).tripSerial = s.tripSerial := rfl
@[simp] theorem putCard_tariffs (s : State) (c : Card) : (s.putCard c).tariffs = s.tariffs := rfl
@[simp] theorem putCard_journal (s : State) (c : Card) : (s.putCard c).journal = s.journal := rfl
@[simp] theorem putCard_manifests (s : State) (c : Card) : (s.putCard c).manifests = s.manifests := rfl
@[simp] theorem putCard_vanWaits (s : State) (c : Card) : (s.putCard c).vanWaits = s.vanWaits := rfl
@[simp] theorem putCard_faults (s : State) (c : Card) : (s.putCard c).faults = s.faults := rfl
@[simp] theorem putCard_ports (s : State) (c : Card) : (s.putCard c).ports = s.ports := rfl

@[simp] theorem dropCard_pending (s : State) (serial : Serial) : (s.dropCard serial).pending = s.pending := rfl
@[simp] theorem dropCard_freeUsed (s : State) (serial : Serial) : (s.dropCard serial).freeUsed = s.freeUsed := rfl
@[simp] theorem dropCard_startSelects (s : State) (serial : Serial) : (s.dropCard serial).startSelects = s.startSelects := rfl
@[simp] theorem dropCard_clock (s : State) (serial : Serial) : (s.dropCard serial).clock = s.clock := rfl
@[simp] theorem dropCard_uptime (s : State) (serial : Serial) : (s.dropCard serial).uptime = s.uptime := rfl
@[simp] theorem dropCard_mode (s : State) (serial : Serial) : (s.dropCard serial).mode = s.mode := rfl
@[simp] theorem dropCard_resetLow (s : State) (serial : Serial) : (s.dropCard serial).resetLow = s.resetLow := rfl
@[simp] theorem dropCard_marker (s : State) (serial : Serial) : (s.dropCard serial).marker = s.marker := rfl
@[simp] theorem dropCard_started (s : State) (serial : Serial) : (s.dropCard serial).started = s.started := rfl
@[simp] theorem dropCard_restart (s : State) (serial : Serial) : (s.dropCard serial).restart = s.restart := rfl
@[simp] theorem dropCard_settings (s : State) (serial : Serial) : (s.dropCard serial).settings = s.settings := rfl
@[simp] theorem dropCard_map (s : State) (serial : Serial) : (s.dropCard serial).map = s.map := rfl
@[simp] theorem dropCard_docks (s : State) (serial : Serial) : (s.dropCard serial).docks = s.docks := rfl
@[simp] theorem dropCard_line (s : State) (serial : Serial) : (s.dropCard serial).line = s.line := rfl
@[simp] theorem dropCard_nextGuest (s : State) (serial : Serial) : (s.dropCard serial).nextGuest = s.nextGuest := rfl
@[simp] theorem dropCard_tripSerial (s : State) (serial : Serial) : (s.dropCard serial).tripSerial = s.tripSerial := rfl
@[simp] theorem dropCard_tariffs (s : State) (serial : Serial) : (s.dropCard serial).tariffs = s.tariffs := rfl
@[simp] theorem dropCard_journal (s : State) (serial : Serial) : (s.dropCard serial).journal = s.journal := rfl
@[simp] theorem dropCard_manifests (s : State) (serial : Serial) : (s.dropCard serial).manifests = s.manifests := rfl
@[simp] theorem dropCard_vanWaits (s : State) (serial : Serial) : (s.dropCard serial).vanWaits = s.vanWaits := rfl
@[simp] theorem dropCard_faults (s : State) (serial : Serial) : (s.dropCard serial).faults = s.faults := rfl
@[simp] theorem dropCard_ports (s : State) (serial : Serial) : (s.dropCard serial).ports = s.ports := rfl

@[simp] theorem hear_pending (s : State) (call : Bool) : (s.hear call).pending = s.pending := rfl
@[simp] theorem hear_freeUsed (s : State) (call : Bool) : (s.hear call).freeUsed = s.freeUsed := rfl
@[simp] theorem hear_startSelects (s : State) (call : Bool) : (s.hear call).startSelects = s.startSelects := rfl
@[simp] theorem hear_clock (s : State) (call : Bool) : (s.hear call).clock = s.clock := rfl
@[simp] theorem hear_uptime (s : State) (call : Bool) : (s.hear call).uptime = s.uptime := rfl
@[simp] theorem hear_mode (s : State) (call : Bool) : (s.hear call).mode = s.mode := rfl
@[simp] theorem hear_resetLow (s : State) (call : Bool) : (s.hear call).resetLow = s.resetLow := rfl
@[simp] theorem hear_marker (s : State) (call : Bool) : (s.hear call).marker = s.marker := rfl
@[simp] theorem hear_started (s : State) (call : Bool) : (s.hear call).started = s.started := rfl
@[simp] theorem hear_restart (s : State) (call : Bool) : (s.hear call).restart = s.restart := rfl
@[simp] theorem hear_settings (s : State) (call : Bool) : (s.hear call).settings = s.settings := rfl
@[simp] theorem hear_map (s : State) (call : Bool) : (s.hear call).map = s.map := rfl
@[simp] theorem hear_docks (s : State) (call : Bool) : (s.hear call).docks = s.docks := rfl
@[simp] theorem hear_cards (s : State) (call : Bool) : (s.hear call).cards = s.cards := rfl
@[simp] theorem hear_nextGuest (s : State) (call : Bool) : (s.hear call).nextGuest = s.nextGuest := rfl
@[simp] theorem hear_tripSerial (s : State) (call : Bool) : (s.hear call).tripSerial = s.tripSerial := rfl
@[simp] theorem hear_tariffs (s : State) (call : Bool) : (s.hear call).tariffs = s.tariffs := rfl
@[simp] theorem hear_journal (s : State) (call : Bool) : (s.hear call).journal = s.journal := rfl
@[simp] theorem hear_manifests (s : State) (call : Bool) : (s.hear call).manifests = s.manifests := rfl
@[simp] theorem hear_vanWaits (s : State) (call : Bool) : (s.hear call).vanWaits = s.vanWaits := rfl
@[simp] theorem hear_faults (s : State) (call : Bool) : (s.hear call).faults = s.faults := rfl
@[simp] theorem hear_ports (s : State) (call : Bool) : (s.hear call).ports = s.ports := rfl

@[simp] theorem freeLine_pending (s : State) : (s.freeLine).pending = s.pending := rfl
@[simp] theorem freeLine_freeUsed (s : State) : (s.freeLine).freeUsed = s.freeUsed := rfl
@[simp] theorem freeLine_startSelects (s : State) : (s.freeLine).startSelects = s.startSelects := rfl
@[simp] theorem freeLine_clock (s : State) : (s.freeLine).clock = s.clock := rfl
@[simp] theorem freeLine_uptime (s : State) : (s.freeLine).uptime = s.uptime := rfl
@[simp] theorem freeLine_mode (s : State) : (s.freeLine).mode = s.mode := rfl
@[simp] theorem freeLine_resetLow (s : State) : (s.freeLine).resetLow = s.resetLow := rfl
@[simp] theorem freeLine_marker (s : State) : (s.freeLine).marker = s.marker := rfl
@[simp] theorem freeLine_started (s : State) : (s.freeLine).started = s.started := rfl
@[simp] theorem freeLine_restart (s : State) : (s.freeLine).restart = s.restart := rfl
@[simp] theorem freeLine_settings (s : State) : (s.freeLine).settings = s.settings := rfl
@[simp] theorem freeLine_map (s : State) : (s.freeLine).map = s.map := rfl
@[simp] theorem freeLine_docks (s : State) : (s.freeLine).docks = s.docks := rfl
@[simp] theorem freeLine_cards (s : State) : (s.freeLine).cards = s.cards := rfl
@[simp] theorem freeLine_nextGuest (s : State) : (s.freeLine).nextGuest = s.nextGuest := rfl
@[simp] theorem freeLine_tripSerial (s : State) : (s.freeLine).tripSerial = s.tripSerial := rfl
@[simp] theorem freeLine_tariffs (s : State) : (s.freeLine).tariffs = s.tariffs := rfl
@[simp] theorem freeLine_journal (s : State) : (s.freeLine).journal = s.journal := rfl
@[simp] theorem freeLine_manifests (s : State) : (s.freeLine).manifests = s.manifests := rfl
@[simp] theorem freeLine_vanWaits (s : State) : (s.freeLine).vanWaits = s.vanWaits := rfl
@[simp] theorem freeLine_faults (s : State) : (s.freeLine).faults = s.faults := rfl
@[simp] theorem freeLine_ports (s : State) : (s.freeLine).ports = s.ports := rfl

/-! ## What an update changes -/

@[simp] theorem withHolding_docks (s : State) (h : Holding) : (s.withHolding h).docks = h.docks := rfl
@[simp] theorem withHolding_manifests (s : State) (h : Holding) : (s.withHolding h).manifests = h.slots := rfl
@[simp] theorem holding_docks (s : State) : s.holding.docks = s.docks := rfl
@[simp] theorem holding_slots (s : State) : s.holding.slots = s.manifests := rfl
@[simp] theorem putCard_cards (s : State) (c : Card) : (s.putCard c).cards = insertCard c s.cards := rfl
@[simp] theorem dropCard_cards (s : State) (n : Serial) :
    (s.dropCard n).cards = s.cards.filter fun c => c.serial != n := rfl
@[simp] theorem hear_call (s : State) (call : Bool) : (s.hear call).line.call = call := rfl
@[simp] theorem freeLine_arbiter (s : State) : s.freeLine.line.arbiter = .free := rfl

/-! ## Reading back one piece -/

/-- Reading a vector at a bounded index. -/
theorem vector_get {α : Type} {n : Nat} (v : Vector α n) (i : Fin n) : v.get i = v[i.val] := rfl

/-- A dock table after an update of one record. -/
theorem Docks.get_update (t : Docks) (d e : DockNo) (f : Dock → Dock) :
    (Docks.update t d f).get e = if d = e then f (t.get d) else t.get e := by
  simp only [Docks.update, vector_get, Vector.getElem_set, Fin.ext_iff]

@[simp] theorem Docks.get_update_self (t : Docks) (d : DockNo) (f : Dock → Dock) :
    (Docks.update t d f).get d = f (t.get d) := by simp [Docks.get_update]

/-- A dock after an update of one dock. -/
theorem dock_updDock (s : State) (d e : DockNo) (f : Dock → Dock) :
    (s.updDock d f).dock e = if d = e then f (s.dock d) else s.dock e := Docks.get_update s.docks d e f

@[simp] theorem dock_updDock_self (s : State) (d : DockNo) (f : Dock → Dock) :
    (s.updDock d f).dock d = f (s.dock d) := by simp [dock_updDock]

@[simp] theorem dock_updDock_other (s : State) (d e : DockNo) (f : Dock → Dock) (h : d ≠ e) :
    (s.updDock d f).dock e = s.dock e := by simp [dock_updDock, h]

/-- A lane after an update of one lane. -/
theorem Line.lane_updLane (l : Line) (d e : DockNo) (f : Lane → Lane) :
    (l.updLane d f).lane e = if d = e then f (l.lane d) else l.lane e := by
  simp only [Line.updLane, Line.lane, vector_get, Vector.getElem_set, Fin.ext_iff]

/-- A lane of a state after an update of one lane. -/
theorem lane_updLane (s : State) (d e : DockNo) (f : Lane → Lane) :
    (s.updLane d f).lane e = if d = e then f (s.lane d) else s.lane e := Line.lane_updLane s.line d e f

@[simp] theorem lane_updLane_self (s : State) (d : DockNo) (f : Lane → Lane) :
    (s.updLane d f).lane d = f (s.lane d) := by simp [lane_updLane]

/-- A port after an update of one port. -/
theorem port_updPort (s : State) (p q : PortId) (f : Port → Port) :
    (s.updPort p f).port q = if p = q then f (s.port p) else s.port q := by
  cases p <;> cases q <;> rfl

@[simp] theorem port_updPort_self (s : State) (p : PortId) (f : Port → Port) :
    (s.updPort p f).port p = f (s.port p) := by simp [port_updPort]

/-- Two updates of one port are one. -/
@[simp] theorem updPort_updPort (s : State) (p : PortId) (f g : Port → Port) :
    (s.updPort p f).updPort p g = s.updPort p (fun q => g (f q)) := by
  cases p <;> rfl

/-- A port once a frame has been clocked at one of them. -/
theorem port_select (s : State) (p q : PortId) :
    (s.select p).port q = if p = q then { s.port p with selected := true } else s.port q := port_updPort s p q _

@[simp] theorem port_select_self (s : State) (p : PortId) : (s.select p).port p = { s.port p with selected := true } := by
  simp [port_select]

/-- An update of a port whose select is in progress. -/
theorem updPort_select (s : State) (p : PortId) (f : Port → Port) :
    (s.select p).updPort p f = s.updPort p fun q => f { q with selected := true } := updPort_updPort s p _ f

@[simp] theorem port_noticeAll (s : State) (i : Nat) (p : PortId) : (s.noticeAll i).port p = (s.port p).notice i := by
  cases p <;> rfl

/-- The slots after an update of one manifest. -/
theorem Slots.get_update (t : Slots) (m n : SlotNo) (f : Manifest → Manifest) :
    (Slots.update t m f).get n = if m = n then (t.get m).map f else t.get n := by
  simp only [Slots.update, vector_get, Vector.getElem_set, Fin.ext_iff]

/-- A manifest after an update of one manifest. -/
theorem manifest_updManifest (s : State) (m n : SlotNo) (f : Manifest → Manifest) :
    (s.updManifest m f).manifests.get n = if m = n then (s.manifests.get m).map f else s.manifests.get n :=
  Slots.get_update s.manifests m n f

/-- Dock, lane and port read through an operation that leaves their part. -/
@[simp] theorem dock_updLane (s : State) (d e : DockNo) (f : Lane → Lane) : (s.updLane d f).dock e = s.dock e := rfl
@[simp] theorem dock_updPort (s : State) (p : PortId) (f : Port → Port) (e : DockNo) : (s.updPort p f).dock e = s.dock e := rfl
@[simp] theorem dock_updManifest (s : State) (m : SlotNo) (f : Manifest → Manifest) (e : DockNo) :
    (s.updManifest m f).dock e = s.dock e := rfl
@[simp] theorem dock_noticeAll (s : State) (i : Nat) (e : DockNo) : (s.noticeAll i).dock e = s.dock e := rfl
@[simp] theorem lane_updDock (s : State) (d e : DockNo) (f : Dock → Dock) : (s.updDock d f).lane e = s.lane e := rfl
@[simp] theorem lane_updPort (s : State) (p : PortId) (f : Port → Port) (e : DockNo) : (s.updPort p f).lane e = s.lane e := rfl
@[simp] theorem lane_noticeAll (s : State) (i : Nat) (e : DockNo) : (s.noticeAll i).lane e = s.lane e := rfl
@[simp] theorem port_updDock (s : State) (d : DockNo) (f : Dock → Dock) (p : PortId) : (s.updDock d f).port p = s.port p := by
  cases p <;> rfl
@[simp] theorem port_updLane (s : State) (d : DockNo) (f : Lane → Lane) (p : PortId) : (s.updLane d f).port p = s.port p := by
  cases p <;> rfl
@[simp] theorem port_withHolding (s : State) (h : Holding) (p : PortId) : (s.withHolding h).port p = s.port p := by
  cases p <;> rfl

/-- A running part takes the effect. -/
theorem whileRunning_run {s : State} (h : s.mode = .run) (f : State → State) : whileRunning s f = .next (f s) := by
  simp [whileRunning, h]

/-- A part that does not run takes none. -/
theorem whileRunning_stopped {s : State} (h : s.mode ≠ .run) (f : State → State) : whileRunning s f = .next s := by
  simp [whileRunning, h]

/-! ## A start's port units -/

/-- What a start leaves of a port before its notices: a fresh unit that discards what remains of a select in progress (R174). -/
@[simp] theorem port_freshStart (s : State) (kind : StartKind) (cause : StartCause) (p : PortId) :
    (s.freshStart kind cause).port p = freshAfterStart s p := by
  cases p <;> rcases h : s.startSelects with _ | ⟨w, rest⟩ <;>
    simp [State.freshStart, State.port, Port.fresh, State.selectAtStart, freshAfterStart, h]

end Sys2Proof.Machine
end

