-- ==== Sys2Proof/Laws/EndStep.lean ====
section
/-! SUPPORT. What the end of a step can do (`conclude`): holds and reserved counts, closes that are admitted or wait, step
lists and the line's slots, and flags.  All else stays, which `conclude_endsAs` says once. -/

namespace Sys2Proof.Machine

/-- A relation that is kept by each step of a fold is kept by the fold. -/
theorem foldl_keeps {α β : Type} {R : α → α → Prop} (hr : ∀ a, R a a) (ht : ∀ a b c, R a b → R b c → R a c)
    {f : α → β → α} (hf : ∀ a b, R a (f a b)) (l : List β) (a : α) : R a (l.foldl f a) := by
  induction l generalizing a with
  | nil => exact hr a
  | cons b l ih => exact ht _ _ _ (hf a b) (ih _)

/-! ## Slots -/

/-- A manifest less the reserved counts of its lines. -/
def Manifest.bare (x : Manifest) : Manifest := { x with lines := x.lines.map fun l => { l with reserved := 0 } }

/-- Slots that differ in reserved counts only. -/
abbrev Slots.Same (t u : Slots) : Prop := ∀ m, (u.get m).map Manifest.bare = (t.get m).map Manifest.bare

theorem map_modify_reserved (l : List MLine) (i : Nat) (f : MLine → MLine)
    (hf : ∀ x, { f x with reserved := 0 } = { x with reserved := 0 }) :
    (l.modify i f).map (fun x => { x with reserved := 0 }) = l.map fun x => { x with reserved := 0 } := by
  induction l generalizing i with
  | nil => simp
  | cons a l ih =>
    cases i with
    | zero => simp [hf]
    | succ i => simp [ih]

theorem updLine_same (t : Slots) (m : SlotNo) (i : Nat) (f : MLine → MLine)
    (hf : ∀ x, { f x with reserved := 0 } = { x with reserved := 0 }) : Slots.Same t (Slots.updLine t m i f) := by
  intro n
  rw [Slots.updLine, Slots.get_update]
  split
  · next h =>
    subst h
    cases t.get m with
    | none => rfl
    | some x => simp [Manifest.bare, map_modify_reserved _ _ _ hf]
  · rfl

/-! ## Holds -/

/-- Two holdings that differ in holds and in reserved counts only. -/
structure Holding.Same (x y : Holding) : Prop where
  docks : ∀ d, { y.docks.get d with hold := none } = { x.docks.get d with hold := none }
  slots : Slots.Same x.slots y.slots

theorem Holding.Same.refl (x : Holding) : x.Same x := ⟨fun _ => rfl, fun _ => rfl⟩

theorem Holding.Same.trans {x y z : Holding} (h : x.Same y) (k : y.Same z) : x.Same z :=
  ⟨fun d => (k.docks d).trans (h.docks d), fun m => (k.slots m).trans (h.slots m)⟩

theorem place_same (x : Holding) (d : DockNo) (m : SlotNo) (i : Nat) : x.Same (x.place d m i) := by
  refine ⟨fun e => ?_, updLine_same _ _ _ _ fun _ => rfl⟩
  simp only [Holding.place, Docks.get_update]
  split
  · next h => subst h; rfl
  · rfl

theorem drop_same (x : Holding) (d : DockNo) : x.Same (x.drop d) := by
  unfold Holding.drop
  split
  · exact .refl x
  · refine ⟨fun e => ?_, updLine_same _ _ _ _ fun _ => rfl⟩
    simp only [Docks.get_update]
    split
    · next h => subst h; rfl
    · rfl

theorem testHolds_same (x : Holding) : x.Same (testHolds x) := by
  refine foldl_keeps (R := Holding.Same) Holding.Same.refl (fun _ _ _ => Holding.Same.trans) (fun y d => ?_) _ _
  unfold testHold
  split
  · exact .refl y
  · split
    · exact .refl y
    · exact drop_same y d

theorem refillLine_same (m : SlotNo) (i fuel : Nat) (x : Holding) : x.Same (refillLine m i fuel x) := by
  induction fuel generalizing x with
  | zero => exact .refl x
  | succ n ih =>
    unfold refillLine
    split
    · exact .refl x
    · split
      · split
        · exact .refl x
        · exact (place_same x _ m i).trans (ih _)
      · exact .refl x

theorem refillPass_same (x : Holding) : x.Same (refillPass x) := by
  refine foldl_keeps (R := Holding.Same) Holding.Same.refl (fun _ _ _ => Holding.Same.trans) (fun y m => ?_) _ _
  unfold refillSlot
  split
  · exact .refl y
  · split
    · exact .refl y
    · exact foldl_keeps (R := Holding.Same) Holding.Same.refl (fun _ _ _ => Holding.Same.trans)
        (fun z i => refillLine_same m i 64 z) _ _

/-! ## The relation -/

theorem EndsAs.refl (u : State) : EndsAs u u where
  rest := rfl
  docks _ := rfl
  lanes _ := rfl
  line := ⟨rfl, rfl, rfl, rfl⟩
  busy _ := ⟨rfl, rfl⟩
  ports _ := rfl
  flags _ := by rw [BitVec.and_not_self]
  changed _ := by rw [BitVec.and_not_self]
  waiting _ := rfl
  reserved := rfl
  records := ⟨[], by simp, by simp⟩
  slots m := by
    cases h : u.manifests.get m with
    | none => exact .inl ⟨rfl, fun x hx => by cases hx⟩
    | some x => exact .inr ⟨x, x, rfl, rfl, rfl, rfl, fun _ => rfl⟩

theorem flags_trans {w : Nat} {a b c : BitVec w} (h : a &&& ~~~b = 0) (k : b &&& ~~~c = 0) : a &&& ~~~c = 0 := by
  apply BitVec.eq_of_getLsbD_eq
  intro i hi
  have h1 := congrArg (fun w => w.getLsbD i) h
  have h2 := congrArg (fun w => w.getLsbD i) k
  simp only [BitVec.getLsbD_and, BitVec.getLsbD_not, hi, decide_true, Bool.true_and] at h1 h2 ⊢
  revert h1 h2
  cases a.getLsbD i <;> cases b.getLsbD i <;> cases c.getLsbD i <;> simp

theorem EndsAs.trans {u v t : State} (h : EndsAs u v) (k : EndsAs v t) : EndsAs u t where
  rest := by
    have h1 := h.rest
    rw [← k.rest] at h1
    exact h1
  docks d := (k.docks d).trans (h.docks d)
  lanes d := (k.lanes d).trans (h.lanes d)
  line := by
    obtain ⟨a, b, c, d⟩ := h.line
    obtain ⟨e, f, g, i⟩ := k.line
    exact ⟨e.trans a, f.trans b, g.trans c, i.trans d⟩
  busy hb := by
    obtain ⟨a, b⟩ := h.busy hb
    obtain ⟨c, d⟩ := k.busy (by rw [a]; exact hb)
    exact ⟨c.trans a, d.trans b⟩
  ports p := (k.ports p).trans (h.ports p)
  flags p := flags_trans (h.flags p) (k.flags p)
  changed p := flags_trans (h.changed p) (k.changed p)
  waiting d := (k.waiting d).trans (h.waiting d)
  reserved := k.reserved.trans h.reserved
  records := by
    obtain ⟨a, ha, hb⟩ := h.records
    obtain ⟨c, hc, hd⟩ := k.records
    refine ⟨a ++ c, by rw [hc, ha, List.append_assoc], fun r hr => ?_⟩
    rcases List.mem_append.mp hr with hr | hr
    · exact hb r hr
    · exact hd r hr
  slots m := by
    rcases k.slots m with ⟨hn, hc⟩ | ⟨x, y, hx, hy, hxy, hl, hi⟩
    · refine .inl ⟨hn, fun x hx => ?_⟩
      rcases h.slots m with ⟨-, hd⟩ | ⟨w, z, hw, hz, hwz, -, -⟩
      · exact hd x hx
      · rw [hw] at hx
        cases hx
        have := hc z hz
        rw [← hwz]
        exact this
    · rcases h.slots m with ⟨hn, -⟩ | ⟨w, z, hw, hz, hwz, hl', hi'⟩
      · rw [hn] at hx; cases hx
      · rw [hx] at hz
        cases hz
        refine .inr ⟨w, y, hw, hy, ?_, hl.trans hl', fun i => (hi i).trans (hi' i)⟩
        rw [← hxy] at hwz
        exact hwz

/-! ## The parts of the end of a step -/

theorem bare_slot {x y : Option Manifest} (h : y.map Manifest.bare = x.map Manifest.bare) :
    (y = none ∧ ∀ a, x = some a → a.state = .closing) ∨ ∃ a b, x = some a ∧ y = some b ∧ { b with lines := a.lines, waiting := a.waiting } = a
      ∧ b.lines.length = a.lines.length
      ∧ ∀ i : Nat, (b.lines[i]?).map (fun l => { l with reserved := 0 }) = (a.lines[i]?).map fun l => { l with reserved := 0 } := by
  cases y with
  | none =>
    cases x with
    | none => exact .inl ⟨rfl, fun a ha => by cases ha⟩
    | some a => simp at h
  | some b =>
    cases x with
    | none => simp at h
    | some a =>
      right
      simp only [Option.map_some, Option.some.injEq, Manifest.bare, Manifest.mk.injEq] at h
      obtain ⟨h1, h2, h3, h4, h5, h6, h7, h8, h9⟩ := h
      refine ⟨a, b, rfl, rfl, ?_, ?_, fun i => ?_⟩
      · cases a; cases b; simp_all
      · have := congrArg List.length h9
        simpa using this
      · have := congrArg (fun l => l[i]?) h9
        simpa using this

theorem withHolding_endsAs {s : State} {h : Holding} (hh : s.holding.Same h) : EndsAs s (s.withHolding h) where
  rest := rfl
  docks d := by
    have := hh.docks d
    simp only [State.dock, Dock.core, withHolding_docks]
    exact congrArg (fun k : Dock => { k with steps := [], lastPattern := none }) this
  lanes _ := rfl
  line := ⟨rfl, rfl, rfl, rfl⟩
  busy _ := ⟨rfl, rfl⟩
  ports p := by rw [port_withHolding]
  flags p := by rw [port_withHolding, BitVec.and_not_self]
  changed p := by rw [port_withHolding, BitVec.and_not_self]
  waiting d := by
    have := congrArg Dock.steps (hh.docks d)
    simp only [State.waiting, State.dock, withHolding_docks]
    exact congrArg _ this
  reserved := rfl
  records := ⟨[], by simp, by simp⟩
  slots m := bare_slot (hh.slots m)

theorem notice_flags (p : Port) (i : Nat) : p.flags &&& ~~~(p.notice i).flags = 0 := by
  apply BitVec.eq_of_getLsbD_eq
  intro j hj
  simp only [Port.notice, BitVec.getLsbD_and, BitVec.getLsbD_not, BitVec.getLsbD_or, hj, decide_true, Bool.true_and]
  cases p.flags.getLsbD j <;> simp

theorem and_not_or {w : Nat} (a b : BitVec w) : a &&& ~~~(a ||| b) = 0 := by
  apply BitVec.eq_of_getLsbD_eq
  intro j hj
  simp only [BitVec.getLsbD_and, BitVec.getLsbD_not, BitVec.getLsbD_or, hj, decide_true, Bool.true_and]
  cases a.getLsbD j <;> simp

theorem noticeAll_endsAs (s : State) (i : Nat) : EndsAs s (s.noticeAll i) where
  rest := rfl
  docks _ := rfl
  lanes _ := rfl
  line := ⟨rfl, rfl, rfl, rfl⟩
  busy _ := ⟨rfl, rfl⟩
  ports p := by rw [port_noticeAll]; rfl
  flags p := by rw [port_noticeAll]; exact notice_flags _ i
  changed p := by rw [port_noticeAll]; exact BitVec.and_not_self _
  waiting _ := rfl
  reserved := rfl
  records := ⟨[], by simp, by simp⟩
  slots := (EndsAs.refl s).slots

theorem port_record (s : State) (body : JournalBody) (time : Time) (dock bike : Nat) (flags : JournalFlags) (p : PortId) :
    (s.record body time dock bike flags).port p = s.port p := by cases p <;> rfl

theorem admitClose_endsAs {s : State} {m : SlotNo} {x : Manifest} (hx : s.manifests.get m = some x)
    (hc : x.state = .closing) : EndsAs s (s.admitClose m x) := by
  refine EndsAs.trans ?_ (noticeAll_endsAs _ _)
  exact {
    rest := rfl
    docks := fun _ => rfl
    lanes := fun _ => rfl
    line := ⟨rfl, rfl, rfl, rfl⟩
    busy := fun _ => ⟨rfl, rfl⟩
    ports := fun p => by cases p <;> rfl
    flags := fun p => by cases p <;> exact BitVec.and_not_self _
    changed := fun p => by cases p <;> exact BitVec.and_not_self _
    waiting := fun _ => rfl
    reserved := rfl
    records := ⟨_, rfl, by simp⟩
    slots := fun n => by
      by_cases hn : m = n
      · subst hn
        refine .inl ⟨?_, fun y hy => ?_⟩
        · simp only [vector_get, Vector.getElem_set]
          exact if_pos trivial
        · rw [hx] at hy
          cases hy
          exact hc
      · have : (s.manifests.set m.val none m.isLt).get n = s.manifests.get n := by
          simp only [vector_get, Vector.getElem_set]
          exact if_neg fun h => hn (Fin.ext h)
        have h := (EndsAs.refl s).slots n
        exact this.symm ▸ h }

theorem waiting_endsAs (s : State) (m : SlotNo) :
    EndsAs s (s.updManifest m fun y => { y with waiting := true }) where
  rest := rfl
  docks _ := rfl
  lanes _ := rfl
  line := ⟨rfl, rfl, rfl, rfl⟩
  busy _ := ⟨rfl, rfl⟩
  ports p := by cases p <;> rfl
  flags p := by cases p <;> exact BitVec.and_not_self _
  changed p := by cases p <;> exact BitVec.and_not_self _
  waiting _ := rfl
  reserved := rfl
  records := ⟨[], by simp, by simp⟩
  slots n := by
    rw [manifest_updManifest]
    split
    · next h =>
      subst h
      cases hm : s.manifests.get m with
      | none => exact .inl ⟨rfl, fun x hx => by cases hx⟩
      | some x => exact .inr ⟨x, _, rfl, rfl, rfl, rfl, fun _ => rfl⟩
    · exact (EndsAs.refl s).slots n

theorem offerClose_endsAs (s : State) (m : SlotNo) : EndsAs s (s.offerClose m) := by
  unfold State.offerClose
  split
  · exact .refl s
  · next x hx =>
    split
    · next hc =>
      split
      · exact admitClose_endsAs hx hc.1
      · exact (waiting_endsAs s m).trans (noticeAll_endsAs _ _)
    · exact .refl s

theorem settleHolds_endsAs (s : State) : EndsAs s s.settleHolds := by
  unfold State.settleHolds
  refine (withHolding_endsAs (testHolds_same _)).trans ?_
  refine EndsAs.trans ?_ (withHolding_endsAs (refillPass_same _))
  exact foldl_keeps (R := EndsAs) EndsAs.refl (fun _ _ _ => EndsAs.trans) offerClose_endsAs _ _

/-! ## The line's work -/

/-- The custody commands a dock of the work still has to have carried out (`State.waiting`). -/
def Work.waiting (w : Work) (d : DockNo) : List Cmd :=
  ((w.line.inFlight.filter fun x => x.dock == d && x.origin == .custody).map Exchange.cmd).toList
    ++ (((w.line.lane d).slot.filter fun c => c.origin == .custody).map SlotCmd.cmd).toList ++ (w.docks.get d).steps

/-- What hand-overs, indicators, SHOWs and the sweep leave. -/
structure Work.Same (x y : Work) : Prop where
  docks   : ∀ d, { y.docks.get d with steps := [], lastPattern := none } = { x.docks.get d with steps := [], lastPattern := none }
  lanes   : ∀ d, (y.line.lane d).core = (x.line.lane d).core
  line    : y.line.call = x.line.call ∧ y.line.pointer = x.line.pointer ∧ y.line.sweepDue = x.line.sweepDue
    ∧ y.line.ack = x.line.ack
  arbiter : x.line.arbiter ≠ .free → y.line.arbiter = x.line.arbiter ∧ y.line.rounds = x.line.rounds
  waiting : ∀ d, y.waiting d = x.waiting d

theorem Work.Same.refl (x : Work) : x.Same x :=
  ⟨fun _ => rfl, fun _ => rfl, ⟨rfl, rfl, rfl, rfl⟩, fun _ => ⟨rfl, rfl⟩, fun _ => rfl⟩

theorem Work.Same.trans {x y z : Work} (h : x.Same y) (k : y.Same z) : x.Same z where
  docks d := (k.docks d).trans (h.docks d)
  lanes d := (k.lanes d).trans (h.lanes d)
  line := by
    obtain ⟨a, b, c, d⟩ := h.line
    obtain ⟨e, f, g, i⟩ := k.line
    exact ⟨e.trans a, f.trans b, g.trans c, i.trans d⟩
  arbiter hb := by
    obtain ⟨a, b⟩ := h.arbiter hb
    obtain ⟨c, d⟩ := k.arbiter (by rw [a]; exact hb)
    exact ⟨c.trans a, d.trans b⟩
  waiting d := (k.waiting d).trans (h.waiting d)

/-- A lane changed in what waits in it. -/
theorem updLane_core (l : Line) (d e : DockNo) (f : Lane → Lane) (hf : ∀ x, (f x).core = x.core) :
    ((l.updLane d f).lane e).core = (l.lane e).core := by
  rw [Line.lane_updLane]
  split
  · next h => subst h; exact hf _
  · rfl

theorem docks_kept (t : Docks) (d e : DockNo) (f : Dock → Dock)
    (hf : ∀ k, { f k with steps := [], lastPattern := none } = { k with steps := [], lastPattern := none }) :
    { (Docks.update t d f).get e with steps := [], lastPattern := none }
      = { t.get e with steps := [], lastPattern := none } := by
  rw [Docks.get_update]
  split
  · next h => subst h; exact hf _
  · rfl

theorem takeCustody_core (l : Line) (d e : DockNo) (c : Cmd) : ((l.takeCustody d c).lane e).core = (l.lane e).core := by
  refine updLane_core l d e (fun x => { (match x.slot with
    | some shown => x.takeBack shown.cmd
    | none => x) with slot := some ⟨c, .custody⟩ }) fun x => ?_
  dsimp only
  split <;> rfl

theorem busyWith_iff (l : Line) (d : DockNo) : l.busyWith d = l.inFlight.any fun x => x.dock == d := by
  unfold Line.busyWith
  cases l.inFlight <;> rfl

/-- A command handed over goes from the head of the step list into the slot: the order of what waits stays. -/
theorem handOver_waiting (w : Work) (d : DockNo) (c : Cmd) (rest : List Cmd) (hs : (w.docks.get d).steps = c :: rest)
    (hf : ((w.docks.get d).online && w.line.freeForCustody d) = true) (e : DockNo) :
    Work.waiting ⟨Docks.update w.docks d fun q => { q with steps := rest }, w.line.takeCustody d c⟩ e = w.waiting e := by
  have hl : ∀ e, ((w.line.takeCustody d c).lane e).slot = if d = e then some ⟨c, .custody⟩ else (w.line.lane e).slot := by
    intro e
    simp only [Line.takeCustody, Line.lane, Line.updLane, vector_get, Vector.getElem_set]
    by_cases h : d = e
    · subst h; simp
    · have : ¬ d.val = e.val := fun hv => h (Fin.ext hv)
      simp [h, this]
  have hi : (w.line.takeCustody d c).inFlight = w.line.inFlight := rfl
  simp only [Work.waiting, hl, hi, Docks.get_update]
  split
  · next h =>
    subst h
    simp only [Line.freeForCustody, Bool.and_eq_true, busyWith_iff, Bool.not_eq_true'] at hf
    obtain ⟨-, hslot, hbusy⟩ := hf
    have h1 : (w.line.inFlight.filter fun x => x.dock == d && x.origin == .custody) = none := by
      cases hx : w.line.inFlight with
      | none => rfl
      | some x =>
        rw [hx] at hbusy
        have : (x.dock == d) = false := by simpa using hbusy
        simp [Option.filter, this]
    have h2 : ((w.line.lane d).slot.filter fun c => c.origin == .custody) = none := by
      cases hx : (w.line.lane d).slot with
      | none => rfl
      | some x =>
        rw [hx] at hslot
        have : x.origin = .display := by simpa using hslot
        simp [Option.filter, this]
    rw [h1, h2, hs]
    rfl
  · rfl

/-- A command issued into an idle slot for another origin does not touch what custody waits for. -/
theorem issue_waiting (t : Docks) (l : Line) (d : DockNo) (c : Cmd) (o : Origin) (ho : o ≠ .custody)
    (hi : l.idleAt d = true) (e : DockNo) : Work.waiting ⟨t, l.issue d c o⟩ e = Work.waiting ⟨t, l⟩ e := by
  have hl : ∀ e, ((l.issue d c o).lane e) = if d = e then { l.lane d with slot := some ⟨c, o⟩ } else l.lane e := fun e =>
    Line.lane_updLane l d e fun x => { x with slot := some ⟨c, o⟩ }
  have hf : (l.issue d c o).inFlight = l.inFlight := rfl
  simp only [Work.waiting, hl, hf]
  split
  · next h =>
    subst h
    simp only [Line.idleAt, Bool.and_eq_true, Option.isNone_iff_eq_none] at hi
    have : (o == Origin.custody) = false := by simpa using ho
    simp [hi.1, Option.filter, this]
  · rfl

theorem updLane_waiting (t : Docks) (l : Line) (d : DockNo) (f : Lane → Lane) (hf : ∀ x, (f x).slot = x.slot) (e : DockNo) :
    Work.waiting ⟨t, l.updLane d f⟩ e = Work.waiting ⟨t, l⟩ e := by
  have h1 : (l.updLane d f).inFlight = l.inFlight := rfl
  have h2 : ((l.updLane d f).lane e).slot = (l.lane e).slot := by
    rw [Line.lane_updLane]
    split
    · next h => subst h; exact hf _
    · rfl
  simp only [Work.waiting, h1, h2]

theorem indicate_waiting (w : Work) (d : DockNo) (p : Pattern) (e : DockNo) :
    Work.waiting ⟨Docks.update w.docks d fun q => { q with lastPattern := some p },
      w.line.updLane d fun x => { x with display := some p }⟩ e = w.waiting e := by
  refine (updLane_waiting _ w.line d (fun x => { x with display := some p }) (fun _ => rfl) e).trans ?_
  simp only [Work.waiting, Docks.get_update]
  split
  · next h => subst h; rfl
  · rfl

theorem handOverDock_same (w : Work) (d : DockNo) : w.Same (handOverDock w d) := by
  unfold handOverDock
  dsimp only
  split
  · exact .refl w
  · next c rest hs =>
    split
    · next hf =>
      exact {
        docks := fun e => docks_kept _ _ _ _ fun _ => rfl
        lanes := fun e => takeCustody_core _ _ _ _
        line := ⟨rfl, rfl, rfl, rfl⟩
        arbiter := fun _ => ⟨rfl, rfl⟩
        waiting := handOver_waiting w d c rest hs hf }
    · exact .refl w

theorem indicateDock_same (w : Work) (d : DockNo) : w.Same (indicateDock w d) := by
  unfold indicateDock
  dsimp only
  split
  · exact {
      docks := fun e => docks_kept _ _ _ _ fun _ => rfl
      lanes := fun e => updLane_core _ _ _ _ fun _ => rfl
      line := ⟨rfl, rfl, rfl, rfl⟩
      arbiter := fun _ => ⟨rfl, rfl⟩
      waiting := fun e => indicate_waiting w d _ e }
  · exact .refl w

theorem issue_core (l : Line) (d e : DockNo) (c : Cmd) (o : Origin) : ((l.issue d c o).lane e).core = (l.lane e).core :=
  updLane_core l d e (fun x => { x with slot := some ⟨c, o⟩ }) fun _ => rfl

theorem showDock_same (w : Work) (d : DockNo) : w.Same (showDock w d) := by
  unfold showDock
  split
  · next p hp =>
    split
    · next hi =>
      refine { docks := fun _ => rfl, lanes := fun e => ?_, line := ⟨rfl, rfl, rfl, rfl⟩, arbiter := fun _ => ⟨rfl, rfl⟩
               waiting := fun e => ?_ }
      · exact (issue_core _ _ _ _ _).trans (updLane_core _ _ _ _ fun _ => rfl)
      · have hs : (w.line.updLane d fun x => { x with display := none }).idleAt d = true := by
          have h2 := (Bool.and_eq_true _ _ ▸ hi).2
          simp only [Line.idleAt, Bool.and_eq_true, Line.lane_updLane, if_true] at h2 ⊢
          exact h2
        exact (issue_waiting w.docks (w.line.updLane d fun x => { x with display := none }) d (.display p) .display
          (by decide) hs e).trans (updLane_waiting w.docks w.line d (fun x => { x with display := none }) (fun _ => rfl) e)
    · exact .refl w
  · exact .refl w

theorem sweepStep_same (w : Work) : w.Same (sweepStep w) := by
  unfold sweepStep
  split
  · exact .refl w
  · split
    · exact .refl w
    · split
      · next d hd =>
        refine { docks := fun _ => rfl, lanes := fun e => issue_core _ _ _ _ _, line := ⟨rfl, rfl, rfl, rfl⟩
                 arbiter := fun _ => ⟨rfl, rfl⟩, waiting := fun e => ?_ }
        have hi : w.line.idleAt d = true := by
          have := List.find?_some hd
          simp only [Bool.and_eq_true] at this
          exact this.2
        exact issue_waiting _ w.line d _ _ (by decide) hi e
      · exact ⟨fun _ => rfl, fun _ => rfl, ⟨rfl, rfl, rfl, rfl⟩, fun _ => ⟨rfl, rfl⟩, fun _ => rfl⟩

/-- The command that the arbiter takes from a slot is the exchange in flight. -/
theorem choose_waiting (w : Work) (v : Settings) (map : Vector (Option Nat) 64) (e : DockNo) :
    Work.waiting { w with line := w.line.choose v map } e = w.waiting e := by
  simp only [Line.choose]
  split
  · next hfree =>
    have hn : w.line.inFlight = none := by simp [Line.inFlight, hfree]
    split
    · simp [Work.waiting, Line.startRound, Line.inFlight, hfree, Line.lane]
    · unfold Line.startExchange
      split
      · simp [Work.waiting, Line.inFlight, hfree, Line.lane]
      · next d rest hq =>
        split
        · simp [Work.waiting, Line.inFlight, hfree, Line.lane]
        · next c hc =>
          have hl : ∀ a : Arbiter, ∀ q r x, (Line.lane { w.line.updLane d (fun x => { x with slot := none }) with
              arbiter := a, rounds := r, queue := q, sent := x } e)
              = if d = e then { w.line.lane d with slot := none } else w.line.lane e := fun _ _ _ _ =>
            Line.lane_updLane w.line d e fun x => { x with slot := none }
          simp only [Work.waiting, hl, hn]
          simp only [Line.inFlight]
          by_cases h : d = e
          · subst h
            cases hx : (c.origin == Origin.custody) <;> simp [Option.filter, hc, hx]
          · have : (d == e) = false := by simpa using h
            simp [Option.filter, this, h]
  · rfl
  · rfl

theorem choose_same (w : Work) (v : Settings) (map : Vector (Option Nat) 64) :
    w.Same { w with line := w.line.choose v map } := by
  refine ⟨fun _ => rfl, fun d => ?_, ?_, fun hb => ?_, choose_waiting w v map⟩
  · simp only [Line.choose]
    split
    · split
      · rfl
      · unfold Line.startExchange
        split
        · rfl
        · split
          · rfl
          · rename_i e _ _ _ _ _
            exact updLane_core w.line e d (fun x => { x with slot := none }) fun _ => rfl
    · rfl
    · rfl
  · simp only [Line.choose]
    split
    · split
      · exact ⟨rfl, rfl, rfl, rfl⟩
      · unfold Line.startExchange
        split
        · exact ⟨rfl, rfl, rfl, rfl⟩
        · split <;> exact ⟨rfl, rfl, rfl, rfl⟩
    · exact ⟨rfl, rfl, rfl, rfl⟩
    · exact ⟨rfl, rfl, rfl, rfl⟩
  · simp only [Line.choose]
    split
    · next h => exact absurd h hb
    · exact ⟨rfl, rfl⟩
    · exact ⟨rfl, rfl⟩

theorem lineWork_same (v : Settings) (map : Vector (Option Nat) 64) (x : Work) : x.Same (lineWork v map x) := by
  unfold lineWork
  refine Work.Same.trans ?_ (choose_same _ v map)
  refine Work.Same.trans ?_ (sweepStep_same _)
  refine Work.Same.trans ?_ (foldl_keeps Work.Same.refl (fun _ _ _ => Work.Same.trans) showDock_same _ _)
  refine Work.Same.trans ?_ (foldl_keeps Work.Same.refl (fun _ _ _ => Work.Same.trans) indicateDock_same _ _)
  exact foldl_keeps Work.Same.refl (fun _ _ _ => Work.Same.trans) handOverDock_same _ _

theorem runLine_endsAs (s : State) : EndsAs s s.runLine := by
  have h := lineWork_same s.settings s.map ⟨s.docks, s.line⟩
  unfold State.runLine
  generalize lineWork s.settings s.map ⟨s.docks, s.line⟩ = w at h
  exact {
    rest := rfl
    docks := fun d => congrArg (fun k : Dock => { k with hold := none }) (h.docks d)
    lanes := h.lanes
    line := h.line
    busy := h.arbiter
    ports := fun p => by cases p <;> rfl
    flags := fun p => by cases p <;> exact BitVec.and_not_self _
    changed := fun p => by cases p <;> exact BitVec.and_not_self _
    waiting := h.waiting
    reserved := rfl
    records := ⟨[], by simp, by simp⟩
    slots := (EndsAs.refl s).slots }

theorem renumber_endsAs (s : State) : EndsAs s s.renumber := by
  have hr : s.journal.renumber.records = s.journal.records := by unfold Journal.renumber; split <;> rfl
  have hv : s.journal.renumber.reserved = s.journal.reserved := by unfold Journal.renumber; split <;> rfl
  exact {
    rest := rfl
    docks := fun _ => rfl
    lanes := fun _ => rfl
    line := ⟨rfl, rfl, rfl, rfl⟩
    busy := fun _ => ⟨rfl, rfl⟩
    ports := fun p => by cases p <;> rfl
    flags := fun p => by cases p <;> exact BitVec.and_not_self _
    changed := fun p => by cases p <;> exact BitVec.and_not_self _
    waiting := fun _ => rfl
    reserved := hv
    records := ⟨[], by simp [State.renumber, hr], by simp⟩
    slots := (EndsAs.refl s).slots }

theorem noticeRise_endsAs (s : State) (a b : Bool) (i : Nat) : EndsAs s (s.noticeRise a b i) := by
  unfold State.noticeRise
  split
  · exact noticeAll_endsAs s i
  · exact .refl s

theorem flagDocks_endsAs (s : State) (before : Docks) : EndsAs s (s.flagDocks before) where
  rest := rfl
  docks _ := rfl
  lanes _ := rfl
  line := ⟨rfl, rfl, rfl, rfl⟩
  busy _ := ⟨rfl, rfl⟩
  ports p := by cases p <;> rfl
  flags p := by cases p <;> exact BitVec.and_not_self _
  changed p := by cases p <;> exact and_not_or _ _
  waiting _ := rfl
  reserved := rfl
  records := ⟨[], by simp [State.flagDocks], by simp⟩
  slots := (EndsAs.refl s).slots

/-- The end of a step, once and for all. -/
theorem conclude_endsAs (before s : State) : EndsAs s (conclude before s) := by
  unfold conclude State.raiseFlags State.riseNotices
  refine (settleHolds_endsAs s).trans ((runLine_endsAs _).trans ((renumber_endsAs _).trans ?_))
  refine (flagDocks_endsAs _ before.docks).trans ?_
  exact (noticeRise_endsAs _ _ _ _).trans ((noticeRise_endsAs _ _ _ _).trans (noticeRise_endsAs _ _ _ _))

end Sys2Proof.Machine
end

