-- ==== Sys2Proof/Laws/Header.lean ====
section
/-! SUPPORT. The header code of a port frame (R155, R156): its check is linear over exclusive-or, a header as sent passes it,
and one with one of its 30 protected bits turned over stands as it was sent. -/

namespace Sys2Proof

/-! ## Linearity -/

/-- The exclusive-or of the positions whose bit is 1, over any list of positions with their bits. -/
def xorOver (h : BitVec 24) (l : List (Nat × Nat)) : Nat :=
  (l.filter fun p => h.getLsbD p.2).foldl (fun a p => a ^^^ p.1) 0

theorem foldl_xor_init (l : List (Nat × Nat)) (a : Nat) :
    l.foldl (fun a p => a ^^^ p.1) a = a ^^^ l.foldl (fun a p => a ^^^ p.1) 0 := by
  induction l generalizing a with
  | nil => simp
  | cons p l ih =>
    simp only [List.foldl_cons, Nat.zero_xor]
    rw [ih, ih p.1, Nat.xor_assoc]

theorem xorOver_cons (h : BitVec 24) (p : Nat × Nat) (l : List (Nat × Nat)) :
    xorOver h (p :: l) = (if h.getLsbD p.2 then p.1 else 0) ^^^ xorOver h l := by
  unfold xorOver
  by_cases hb : h.getLsbD p.2
  · simp only [List.filter_cons, hb, if_true, List.foldl_cons, Nat.zero_xor]
    rw [foldl_xor_init]
  · simp [hb]

theorem xorOver_xor (h g : BitVec 24) (l : List (Nat × Nat)) :
    xorOver (h ^^^ g) l = xorOver h l ^^^ xorOver g l := by
  induction l with
  | nil => simp [xorOver]
  | cons p l ih =>
    rw [xorOver_cons, xorOver_cons, xorOver_cons, ih, BitVec.getLsbD_xor]
    have swap : ∀ a b c d : Nat, (a ^^^ b) ^^^ (c ^^^ d) = (a ^^^ c) ^^^ (b ^^^ d) := by
      intro a b c d
      rw [Nat.xor_assoc, ← Nat.xor_assoc b, Nat.xor_comm b c, Nat.xor_assoc c, ← Nat.xor_assoc]
    rw [swap]
    congr 1
    cases h.getLsbD p.2 <;> cases g.getLsbD p.2 <;> simp

/-- The exclusive-or of positions is linear (R155). -/
theorem positionXor_xor (h g : BitVec 24) : positionXor (h ^^^ g) = positionXor h ^^^ positionXor g :=
  xorOver_xor h g _

/-- The bit `i` of a header alone has its own position (R155). -/
theorem positionXor_bit : ∀ i : Fin 24, positionXor (BitVec.ofNat 24 (2 ^ i.val)) = headerPositions.getD i.val 0 := by
  decide +kernel

theorem positionXor_lt (h : BitVec 24) : positionXor h < 32 := by
  have key : ∀ l : List (Nat × Nat), (∀ p ∈ l, p.1 < 2 ^ 5) → xorOver h l < 2 ^ 5 := by
    intro l
    induction l with
    | nil => intro _; simp [xorOver]
    | cons p l ih =>
      intro hl
      rw [xorOver_cons]
      refine Nat.xor_lt_two_pow ?_ (ih fun q hq => hl q (List.mem_cons_of_mem _ hq))
      split
      · exact hl p List.mem_cons_self
      · decide
  exact key _ (by decide)

/-! ## Parities -/

/-- The parity of the low bits of a number. -/
def parity (n v : Nat) : Nat := countOnes n v % 2

theorem filter_parity_xor (l : List Nat) (v w : Nat) :
    ((l.filter (v ^^^ w).testBit).length) % 2
      = ((l.filter v.testBit).length + (l.filter w.testBit).length) % 2 := by
  induction l with
  | nil => rfl
  | cons i l ih =>
    simp only [List.filter_cons, Nat.testBit_xor]
    cases v.testBit i <;> cases w.testBit i <;> simp <;> omega

theorem countOnes_xor (n v w : Nat) : countOnes n (v ^^^ w) % 2 = (countOnes n v + countOnes n w) % 2 :=
  filter_parity_xor _ v w

theorem countOnes_bit24 : ∀ i : Fin 24, countOnes 24 (2 ^ i.val) = 1 := by decide +kernel

theorem countOnes_bit6 : ∀ i : Fin 6, countOnes 6 (2 ^ i.val) = 1 := by decide +kernel

theorem countOnes_check : ∀ low : Fin 32, ∀ p : Fin 2,
    countOnes 6 (low.val + 32 * p.val) = countOnes 5 low.val + p.val := by decide +kernel

/-! ## The check byte -/

/-- The check byte as a number: its low five bits and its bit 5 (R155). -/
theorem checkByte_toNat (h : BitVec 24) :
    (checkByte h).toNat = positionXor h + 32 * ((countOnes 24 h.toNat + countOnes 5 (positionXor h)) % 2) := by
  have := positionXor_lt h
  simp only [checkByte, BitVec.toNat_ofNat]
  omega

theorem checkByte_low (h : BitVec 24) : (checkByte h).toNat % 32 = positionXor h := by
  have := positionXor_lt h
  rw [checkByte_toNat]
  omega

/-- The 30 bits of a header as sent hold an even number of ones (R155). -/
theorem checkByte_even (h : BitVec 24) : (countOnes 24 h.toNat + countOnes 6 (checkByte h).toNat) % 2 = 0 := by
  have hp := positionXor_lt h
  have hc := countOnes_check ⟨positionXor h, hp⟩
    ⟨(countOnes 24 h.toNat + countOnes 5 (positionXor h)) % 2, Nat.mod_lt _ (by decide)⟩
  rw [checkByte_toNat]
  simp only at hc
  rw [hc]
  omega

/-! ## What the check finds -/

/-- The syndrome of a header and check byte that differ from one as sent (R156). -/
theorem syndrome_of (h g : BitVec 24) (e : Nat) :
    positionXor (h ^^^ g) ^^^ ((checkByte h).toNat ^^^ e) % 32 = positionXor g ^^^ e % 32 := by
  have hm : ((checkByte h).toNat ^^^ e) % 32 = positionXor h ^^^ e % 32 := by
    rw [show (32 : Nat) = 2 ^ 5 from rfl, Nat.xor_mod_two_pow, show (2 : Nat) ^ 5 = 32 from rfl, checkByte_low]
  rw [hm, positionXor_xor, Nat.xor_comm (positionXor h) (positionXor g), Nat.xor_assoc, ← Nat.xor_assoc (positionXor h),
    Nat.xor_self, Nat.zero_xor]

/-- The parity of a header and check byte that differ from one as sent (R156). -/
theorem parity_of (h g : BitVec 24) (e : Nat) :
    (countOnes 24 (h.toNat ^^^ g.toNat) + countOnes 6 ((checkByte h).toNat ^^^ e)) % 2
      = (countOnes 24 g.toNat + countOnes 6 e) % 2 := by
  have h1 := countOnes_xor 24 h.toNat g.toNat
  have h2 := countOnes_xor 6 (checkByte h).toNat e
  have h3 := checkByte_even h
  omega

/-- A header as sent stands (R156). -/
theorem checkHeader_sent (h : BitVec 24) : checkHeader h (checkByte h) = .stands h false := by
  have h1 := checkByte_even h
  simp [checkHeader, checkByte_low, h1]

theorem bit_position : ∀ i : Fin 24, ¬ (headerPositions.getD i.val 0 = 0 ∨ headerPositions.getD i.val 0 ∈ [1, 2, 4, 8, 16])
    ∧ headerPositions.getD i.val 0 ∈ headerPositions
    ∧ headerPositions.idxOf (headerPositions.getD i.val 0) = i.val := by decide +kernel

theorem check_position : ∀ i : Fin 6, 2 ^ i.val % 32 ∈ [0, 1, 2, 4, 8, 16] := by decide +kernel

/-- A header bit turned over is turned back (R156). -/
theorem checkHeader_headerBit (h : BitVec 24) (i : Fin 24) :
    checkHeader (h ^^^ BitVec.ofNat 24 (2 ^ i.val)) (checkByte h) = .stands h true := by
  have hs := syndrome_of h (BitVec.ofNat 24 (2 ^ i.val)) 0
  have hp := parity_of h (BitVec.ofNat 24 (2 ^ i.val)) 0
  have hi : (BitVec.ofNat 24 (2 ^ i.val)).toNat = 2 ^ i.val := by
    rw [BitVec.toNat_ofNat]
    exact Nat.mod_eq_of_lt (Nat.pow_lt_pow_right (by decide) i.isLt)
  rw [Nat.xor_zero, Nat.zero_mod, Nat.xor_zero, positionXor_bit] at hs
  rw [hi, countOnes_bit24, Nat.xor_zero] at hp
  obtain ⟨hn, hm, hx⟩ := bit_position i
  have hz : countOnes 6 0 = 0 := by decide
  have hodd : (countOnes 24 (h ^^^ BitVec.ofNat 24 (2 ^ i.val)).toNat + countOnes 6 (checkByte h).toNat) % 2 = 1 := by
    rw [BitVec.toNat_xor, hi, hp, hz]
  simp only [checkHeader, hs, hodd, if_true, hm, hx]
  rw [if_neg hn, BitVec.xor_assoc, BitVec.xor_self]
  simp

/-- A check bit turned over leaves the header as it stands (R156). -/
theorem checkHeader_checkBit (h : BitVec 24) (j : Fin 6) :
    checkHeader h (checkByte h ^^^ BitVec.ofNat 8 (2 ^ j.val)) = .stands h false := by
  have hs := syndrome_of h 0#24 (2 ^ j.val)
  have hp := parity_of h 0#24 (2 ^ j.val)
  have hj : (BitVec.ofNat 8 (2 ^ j.val)).toNat = 2 ^ j.val := by
    rw [BitVec.toNat_ofNat]
    exact Nat.mod_eq_of_lt (Nat.pow_lt_pow_right (by decide) (Nat.lt_trans j.isLt (by decide)))
  have hz : positionXor 0#24 = 0 := by decide
  have hz' : countOnes 24 0 = 0 := by decide
  rw [BitVec.xor_zero, hz, Nat.zero_xor] at hs
  rw [show (0#24).toNat = 0 from rfl, Nat.xor_zero, hz', countOnes_bit6] at hp
  have hm := check_position j
  simp only [List.mem_cons, List.not_mem_nil, or_false] at hm
  simp only [checkHeader, BitVec.toNat_xor, hj, hs, hp, if_true]
  rw [if_pos (by simpa using hm)]

/-- Whatever one of the 30 protected bits the link turned over, the header stands as it was sent, and it counts as
corrected exactly where that bit is one of the header's 24 (R156). -/
theorem checkHeader_received (flip : Option (Fin 30)) (h : BitVec 24) :
    checkHeader (received flip h).1 (received flip h).2 = .stands h (flip.any fun i => i.val < 24) := by
  cases flip with
  | none => simp [received, checkHeader_sent]
  | some i =>
    by_cases hi : i.val < 24
    · simpa [received, hi] using checkHeader_headerBit h ⟨i.val, hi⟩
    · have := checkHeader_checkBit h ⟨i.val - 24, by omega⟩
      simpa [received, hi] using this

end Sys2Proof
end

