-- ==== Sys2Proof/Laws/Serve.lean ====
section
/-! SUPPORT. What a port unit does with a request frame (R159): where it hears the frame, the request reaches the tests of
steps 5 to 9; where the tag is in use, it is discarded; and the reply is queued under its tag. -/

namespace Sys2Proof

/-! ## Reading a header back -/

theorem headerKind_headerOf (tag : BitVec 2) (kind : BitVec 6) (params : BitVec 16) :
    headerKind (headerOf tag kind params) = kind := by
  apply BitVec.eq_of_getLsbD_eq
  intro i hi
  simp only [headerKind, headerOf, BitVec.getLsbD_setWidth, BitVec.getLsbD_append]
  simp [hi]

theorem headerTag_headerOf (tag : BitVec 2) (kind : BitVec 6) (params : BitVec 16) :
    headerTag (headerOf tag kind params) = tag := by
  apply BitVec.eq_of_getLsbD_eq
  intro i hi
  simp only [headerTag, headerOf, BitVec.getLsbD_setWidth, BitVec.getLsbD_append, BitVec.getLsbD_ushiftRight]
  simp [hi, show ¬ 6 + i < 6 by omega]

theorem headerParams_headerOf (tag : BitVec 2) (kind : BitVec 6) (params : BitVec 16) :
    headerParams (headerOf tag kind params) = params := by
  apply BitVec.eq_of_getLsbD_eq
  intro i hi
  simp only [headerParams, headerOf, BitVec.getLsbD_setWidth, BitVec.getLsbD_append, BitVec.getLsbD_ushiftRight]
  simp [hi, show ¬ 8 + i < 6 by omega, show ¬ 8 + i - 6 < 2 by omega, show 8 + i - 6 - 2 = i by omega]

/-! ## Lengths of fields -/

@[simp] theorem leBytes_length (n v : Nat) : (leBytes n v).length = n := by
  induction n generalizing v with
  | zero => rfl
  | succ n ih => simp [leBytes, ih]

@[simp] theorem serialBytes_length (s : Serial) : (serialBytes s).length = 7 := by simp [serialBytes]

@[simp] theorem lineBytes_length (ls : List LineWords) : (lineBytes ls).length = 2 * ls.length := by
  induction ls with
  | nil => rfl
  | cons l ls ih => simp only [lineBytes, List.length_cons, ih]; omega

@[simp] theorem ackBytes_length (es : List AckWords) : (ackBytes es).length = 3 * es.length := by
  induction es with
  | nil => rfl
  | cons e es ih => simp only [ackBytes, List.length_append, List.length_cons, leBytes_length, ih]; omega

@[simp] theorem tariffWords_length (v : TariffWords) : v.bytes.length = 28 := by simp [TariffWords.bytes]

@[simp] theorem cardPut_length (r : CardPut) : r.bytes.length = 22 := by simp [CardPut.bytes]

@[simp] theorem settingsWords_length (w : SettingsWords) : w.bytes.length = 58 := by simp [SettingsWords.bytes]

end Sys2Proof

namespace Sys2Proof.Machine

/-! ## The arrival of a frame -/

/-- The port after a frame's header, corrected or not, has been checked, with what stands (R156). -/
theorem checkHeader_port (p : Port) (k : Link) (kind : BitVec 6) (params : BitVec 16)
    (hlen : isLongKind kind = true → params.toNat ≤ maxPayload) :
    p.checkHeader (received k.flip (headerOf k.tag kind params)).1 (received k.flip (headerOf k.tag kind params)).2
      = ({ p with corrected := if headerCorrected k then min 255 (p.corrected + 1) else p.corrected },
          some (headerOf k.tag kind params)) := by
  have hc : (k.flip.any fun i => decide (i.val < 24)) = headerCorrected k := by
    cases hf : k.flip <;> simp [headerCorrected, hf]
  have hl : (isLongKind kind && decide (maxPayload < params.toNat)) = false := by
    cases hk : isLongKind kind with
    | false => rfl
    | true => simpa using hlen hk
  simp only [Port.checkHeader, checkHeader_received, hc, headerKind_headerOf, headerParams_headerOf, hl]
  cases headerCorrected k <;> rfl

/-- A request whose tag is free becomes in use and goes on (R159). -/
theorem arrive_free {p : Port} {k : Link} {kind : BitVec 6} {params : BitVec 16} (hd : p.discarding = false)
    (ht : p.tags.getLsbD k.tag.toNat = false) (hlen : isLongKind kind = true → params.toNat ≤ maxPayload) :
    p.arrive k kind params
      = ({ p with
            tags := p.tags ||| BitVec.ofNat 4 (2 ^ k.tag.toNat)
            corrected := if headerCorrected k then min 255 (p.corrected + 1) else p.corrected }, true) := by
  simp only [Port.arrive, hd, Bool.false_eq_true, if_false, checkHeader_port p k kind params hlen, headerTag_headerOf,
    Port.tagInUse, ht, tagBit]

/-- A request whose tag is in use is discarded, with TAG_CLASH (R159). -/
theorem arrive_clash {p : Port} {k : Link} {kind : BitVec 6} {params : BitVec 16} (hd : p.discarding = false)
    (ht : p.tags.getLsbD k.tag.toNat = true) (hlen : isLongKind kind = true → params.toNat ≤ maxPayload) :
    p.arrive k kind params
      = ({ p with corrected := if headerCorrected k then min 255 (p.corrected + 1) else p.corrected }.notice noticeTagClash,
          false) := by
  simp only [Port.arrive, hd, Bool.false_eq_true, if_false, checkHeader_port p k kind params hlen, headerTag_headerOf,
    Port.tagInUse, ht, if_true]

theorem updPort_const (s : State) (p : PortId) (f : Port → Port) : s.updPort p (fun _ => f (s.port p)) = s.updPort p f := by
  cases p <;> rfl

/-- A request that a port hears goes to steps 5 to 9 of R159, its select in progress and its tag in use. -/
theorem serve_hears {s : State} {k : Link} {kind : BitVec 6} {params : BitVec 16} (h : s.hears k)
    (hlen : isLongKind kind = true → params.toNat ≤ maxPayload) (sumOk form allowed : Bool) (act : State → Taken) :
    serve k kind params sumOk form allowed act (s.select k.port)
      = queueAnswer k.port k.tag (judge sumOk form allowed act (s.accepted k)) := by
  obtain ⟨-, hd, ht⟩ := h
  have hp : ((s.select k.port).port k.port).arrive k kind params
      = ({ s.port k.port with
            selected := true
            tags := (s.port k.port).tags ||| BitVec.ofNat 4 (2 ^ k.tag.toNat)
            corrected := if headerCorrected k then min 255 ((s.port k.port).corrected + 1)
              else (s.port k.port).corrected }, true) := by
    rw [port_select_self, arrive_free (p := { s.port k.port with selected := true }) hd ht hlen]
  simp only [serve, hp, if_true, State.accepted, updPort_select]
  rw [updPort_const s k.port fun q =>
    { q with
      selected := true
      tags := q.tags ||| BitVec.ofNat 4 (2 ^ k.tag.toNat)
      corrected := if headerCorrected k then min 255 (q.corrected + 1) else q.corrected }]

/-- A short request that a port hears, of the right form and at a port that may make it, reaches its block. -/
theorem serveShort_hears {s : State} {k : Link} {kind : BitVec 6} {params : BitVec 16} {form : Bool}
    {allowed : PortId → Bool} (h : s.hears k) (hk : isLongKind kind = false) (hf : form = true)
    (ha : allowed k.port = true) (act : State → Taken) :
    serveShort k kind params form allowed act (s.select k.port) = queueAnswer k.port k.tag (act (s.accepted k)) := by
  rw [serveShort, serve_hears h (by simp [hk])]
  simp [judge, hf, ha]

theorem accepted_settings (s : State) (k : Link) : (s.accepted k).settings = s.settings := rfl

/-- The checksum test of R157. -/
theorem sumAccepted_of {s : State} {p : PortId} {sum : BitVec 16} {payload : List Byte}
    (h : sum = checksum payload ∨ (sum = 0 ∧ sumRequired s.settings p = false)) :
    sumAccepted s p sum payload = true := by
  rcases h with h | ⟨h, hr⟩ <;> simp [sumAccepted, *]

/-- A long request that a port gets, of a payload that fits a frame, with its codes assigned and at a port that may make
it, reaches its block. -/
theorem serveLong_gets {s : State} {f : LongFrame} {i : Instr} {kind : BitVec 6} {payload : List Byte} {codesOk : Bool}
    {allowed : PortId → Bool} (hl : i.layout = some (kind, payload)) (h : s.gets f i)
    (hlen : payload.length ≤ maxPayload) (hc : codesOk = true) (ha : allowed f.link.port = true) (act : State → Taken) :
    serveLong f i.layout codesOk allowed act (s.select f.link.port)
      = queueAnswer f.link.port f.link.tag (act (s.accepted f.link)) := by
  obtain ⟨hh, hm, hs⟩ := h
  rw [show payloadOf i = payload by simp [payloadOf, hl]] at hs
  have hn : (BitVec.ofNat 16 payload.length).toNat ≤ maxPayload := by
    rw [BitVec.toNat_ofNat]
    exact Nat.le_trans (Nat.mod_le _ _) hlen
  simp only [serveLong, hl, hm, Option.getD_none]
  rw [serve_hears hh fun _ => hn]
  have hs' : sumAccepted (s.select f.link.port) f.link.port f.sum payload = true := sumAccepted_of hs
  simp [judge, hs', hc, ha]

/-! ## Replies -/

theorem queueAnswer_status (k : Link) (t : State) (st : Status) :
    queueAnswer k.port k.tag (replyStatus t st) = t.replied k st := rfl

theorem queueAnswer_reason (k : Link) (t : State) (r : Reason) :
    queueAnswer k.port k.tag (refuseFor t r) = t.replied k .notAvailable none (some r) := rfl

theorem queueAnswer_content (k : Link) (t : State) (st : Status) (content : List Byte) :
    queueAnswer k.port k.tag (answerWith t st content) = t.replied k st (some content) := rfl

theorem queueAnswer_later (k : Link) (t : State) : queueAnswer k.port k.tag (t, none) = t := rfl

end Sys2Proof.Machine
end

