-- ==== Sys2Proof/Laws/Setup.lean ====
section
/-! SUPPORT. What only the station's own requests and the power events change: the commands that wait, the clock, the uptime,
the mode, the settings, the dock map, the tariffs, the next guest number, and which docks are mapped.  One lemma for each
operation of the custody unit, the line controller, the journal, the manifests and the faults says that it leaves them. -/

namespace Sys2Proof.Machine

/-- The part of a state that the work of docks, line, journal, manifests and faults leaves alone. -/
structure Setup where
  pending   : List Instr
  clock     : Option Nat
  uptime    : Nat
  mode      : Mode
  resetLow  : Bool
  marker    : Bool
  started   : StartRecord
  restart   : Option Restart
  settings  : Settings
  map       : Vector (Option Nat) 64
  tariffs   : Vector Tariff 8
  nextGuest : Nat
  mapped    : DockNo → Bool

/-- That part of a state. -/
def State.setup (s : State) : Setup :=
  { pending := s.pending, clock := s.clock, uptime := s.uptime, mode := s.mode, resetLow := s.resetLow, marker := s.marker
    started := s.started, restart := s.restart, settings := s.settings, map := s.map, tariffs := s.tariffs
    nextGuest := s.nextGuest, mapped := fun d => (s.dock d).mapped }

/-- A state with the same set-up fields and a dock table of the same mapped docks has the same set-up. -/
theorem setup_of_docks (s : State) (t : Docks) (h : ∀ d, (t.get d).mapped = (s.docks.get d).mapped) :
    { s with docks := t }.setup = s.setup := by
  simp only [State.setup, State.dock, Setup.mk.injEq, true_and]
  exact funext h

theorem setup_updDock (s : State) (d : DockNo) (f : Dock → Dock) (h : ∀ k, (f k).mapped = k.mapped) :
    (s.updDock d f).setup = s.setup := by
  refine setup_of_docks s _ fun e => ?_
  rw [Docks.get_update]
  split
  · next he => subst he; exact h _
  · rfl

theorem setup_after {s u : State} {d : DockNo} {f : Dock → Dock} (h : ∀ k, (f k).mapped = k.mapped)
    (hs : s.setup = u.setup) : (s.updDock d f).setup = u.setup := (setup_updDock s d f h).trans hs

/-- A fold of operations that leave the set-up leaves it. -/
theorem setup_foldl {β : Type} (f : State → β → State) (h : ∀ s b, (f s b).setup = s.setup) (l : List β) (s : State) :
    (l.foldl f s).setup = s.setup :=
  foldl_keeps (R := fun a b => b.setup = a.setup) (fun _ => rfl) (fun a b c (h : b.setup = a.setup) (k : c.setup = b.setup) => k.trans h) h l s

theorem endsAs_setup {u t : State} (h : EndsAs u t) : t.setup = u.setup := by
  have hr := h.rest
  have hd : ∀ d, (t.dock d).mapped = (u.dock d).mapped := fun d => by
    have hk := congrArg Dock.mapped (h.docks d)
    exact hk
  rw [← hr]
  simp only [State.setup, Setup.mk.injEq, true_and]
  exact funext fun d => by rw [hd]; rfl

/-! ## Pieces -/

@[simp] theorem setup_updLane (s : State) (d : DockNo) (f : Lane → Lane) :
    (s.updLane d f).setup = s.setup := rfl

@[simp] theorem setup_updPort (s : State) (p : PortId) (f : Port → Port) :
    (s.updPort p f).setup = s.setup := rfl

@[simp] theorem setup_updManifest (s : State) (m : SlotNo) (f : Manifest → Manifest) :
    (s.updManifest m f).setup = s.setup := rfl

@[simp] theorem setup_updLine (s : State) (m : SlotNo) (i : Nat) (f : MLine → MLine) :
    (s.updLine m i f).setup = s.setup := rfl

@[simp] theorem setup_noticeAll (s : State) (i : Nat) :
    (s.noticeAll i).setup = s.setup := rfl

@[simp] theorem setup_sendReply (s : State) (p : PortId) (tag : BitVec 2) (a : Answer) :
    (s.sendReply p tag a).setup = s.setup := rfl

@[simp] theorem setup_record (s : State) (b : JournalBody) (t : Time) (d n : Nat) (f : JournalFlags) :
    (s.record b t d n f).setup = s.setup := rfl

@[simp] theorem setup_reserve (s : State) :
    (s.reserve).setup = s.setup := rfl

@[simp] theorem setup_unreserve (s : State) :
    (s.unreserve).setup = s.setup := rfl

@[simp] theorem setup_convert (s : State) (b : JournalBody) (t : Time) (d n : Nat) (f : JournalFlags) :
    (s.convert b t d n f).setup = s.setup := rfl

@[simp] theorem setup_putCard (s : State) (c : Card) :
    (s.putCard c).setup = s.setup := rfl

@[simp] theorem setup_dropCard (s : State) (n : Serial) :
    (s.dropCard n).setup = s.setup := rfl

@[simp] theorem setup_hear (s : State) (call : Bool) :
    (s.hear call).setup = s.setup := rfl

@[simp] theorem setup_freeLine (s : State) :
    (s.freeLine).setup = s.setup := rfl

@[simp] theorem setup_put (s : State) (d : DockNo) (c : Cmd) :
    (s.put d c).setup = s.setup := setup_updDock s d _ fun _ => rfl

@[simp] theorem setup_flash (s : State) (d : DockNo) :
    (s.flash d).setup = s.setup := setup_updDock s d _ fun _ => rfl

@[simp] theorem setup_updRelease (s : State) (d : DockNo) (f : Release → Release) :
    (s.updRelease d f).setup = s.setup := setup_updDock s d _ fun _ => rfl

@[simp] theorem setup_noticeRise (s : State) (a b : Bool) (i : Nat) :
    (s.noticeRise a b i).setup = s.setup := by unfold State.noticeRise; split <;> simp

@[simp] theorem setup_storeTrips (s : State) (c : Card) :
    (s.storeTrips c).setup = s.setup := by unfold State.storeTrips; split <;> simp

@[simp] theorem setup_raiseTrips (s : State) (n : Serial) :
    (s.raiseTrips n).setup = s.setup := by
  unfold State.raiseTrips
  split
  · split <;> simp
  · rfl

@[simp] theorem setup_retractCard (s : State) (t : Stamp) (v : Nat) :
    (s.retractCard t v).setup = s.setup := by unfold State.retractCard; split <;> simp

@[simp] theorem setup_chargeCard (s : State) (t : Stamp) (net v : Nat) : (s.chargeCard t net v).1.setup = s.setup := by
  unfold State.chargeCard
  split <;> simp

@[simp] theorem setup_withHolding {s : State} {h : Holding} (hh : s.holding.Same h) : (s.withHolding h).setup = s.setup :=
  endsAs_setup (withHolding_endsAs hh)

@[simp] theorem setup_dropHold (s : State) (d : DockNo) :
    (s.dropHold d).setup = s.setup := setup_withHolding (drop_same _ d)

@[simp] theorem setup_restartIdle (s : State) (m : SlotNo) :
    (s.restartIdle m).setup = s.setup := rfl

/-! ## Faults -/

@[simp] theorem setup_joinFault (s : State) (r : Report) (q : List FaultRecord) : (s.joinFault r q).1.setup = s.setup := rfl

@[simp] theorem setup_takeReport (s : State) (r : Report) : (s.takeReport r).1.setup = s.setup := by
  unfold State.takeReport
  split
  · rfl
  · split
    · rfl
    · split <;> rfl

@[simp] theorem setup_report (s : State) (src : FaultSource) (code : Nat) (d : DockNo) (bike : Option Nat) :
    (s.report src code d bike).setup = s.setup := setup_takeReport s _

/-! ## The journal -/

@[simp] theorem setup_admitEnd (s : State) (d : DockNo) (e : Settle) (t : Stamp) (deferred : Bool) :
    (s.admitEnd d e t deferred).setup = s.setup := by simp [State.admitEnd]

@[simp] theorem setup_settleAs (s : State) (d : DockNo) (e : Settle) (deferred : Bool) :
    (s.settleAs d e deferred).setup = s.setup := by unfold State.settleAs; split <;> simp

@[simp] theorem setup_settleArrival (s : State) (d : DockNo) (deferred : Bool) :
    (s.settleArrival d deferred).1.setup = s.setup := by
  unfold State.settleArrival
  split
  · rfl
  · split
    · rfl
    · dsimp only
      split
      · exact setup_after (fun _ => rfl) (by simp)
      · exact setup_after (fun _ => rfl) rfl

theorem setup_drainDock (x : State × Bool) (d : DockNo) : (drainDock x d).1.setup = x.1.setup := by
  unfold drainDock
  split
  · rfl
  · split
    · rfl
    · split
      · rfl
      · split
        · dsimp only
          rw [setup_settleArrival]
          exact setup_after (fun _ => rfl) (by simp)
        · rfl

@[simp] theorem setup_admitClose (s : State) (m : SlotNo) (x : Manifest) :
    (s.admitClose m x).setup = s.setup := rfl

theorem setup_drainClose (x : State × Bool) (m : SlotNo) : (drainClose x m).1.setup = x.1.setup := by
  unfold drainClose
  split
  · rfl
  · split
    · rfl
    · split
      · split
        · simp
        · rfl
      · rfl

@[simp] theorem setup_drain (s : State) :
    (s.drain).setup = s.setup := by
  unfold State.drain
  have h1 := foldl_keeps (R := fun a b : State × Bool => b.1.setup = a.1.setup) (fun _ => rfl)
    (fun a b c (h : b.1.setup = a.1.setup) (k : c.1.setup = b.1.setup) => k.trans h) setup_drainDock allDocks (s, false)
  exact (foldl_keeps (R := fun a b : State × Bool => b.1.setup = a.1.setup) (fun _ => rfl)
    (fun a b c (h : b.1.setup = a.1.setup) (k : c.1.setup = b.1.setup) => k.trans h) setup_drainClose bothSlots _).trans h1

@[simp] theorem setup_releaseSlot (s : State) :
    (s.releaseSlot).setup = s.setup := by simp [State.releaseSlot]

/-! ## Manifests -/

theorem dropHoldsOf_same (m : SlotNo) (x : Holding) : x.Same (dropHoldsOf m x) := by
  refine foldl_keeps (R := Holding.Same) Holding.Same.refl (fun _ _ _ => Holding.Same.trans) (fun y d => ?_) _ _
  dsimp only
  split
  · exact drop_same y d
  · exact .refl y

@[simp] theorem setup_enterClosing (s : State) (m : SlotNo) (r : CloseReason) :
    (s.enterClosing m r).setup = s.setup := by
  unfold State.enterClosing
  rw [setup_noticeAll, setup_withHolding (dropHoldsOf_same m _), setup_updManifest]

@[simp] theorem setup_countDone (s : State) (m : SlotNo) (i : Nat) :
    (s.countDone m i).setup = s.setup := rfl

@[simp] theorem setup_displace (s : State) (d : DockNo) :
    (s.displace d).setup = s.setup := by unfold State.displace; split <;> simp

@[simp] theorem setup_countDelivery (s : State) (d : DockNo) : (s.countDelivery d).1.setup = s.setup := by
  unfold State.countDelivery
  split
  · simp
  · split
    · rfl
    · split <;> simp

@[simp] theorem setup_answerVan (s : State) (r : VanRequest) :
    (s.answerVan r).setup = s.setup := by unfold State.answerVan; split <;> simp

@[simp] theorem setup_vanOutcome (s : State) (d : DockNo) (o : VanOutcome) :
    (s.vanOutcome d o).setup = s.setup := setup_foldl _ setup_answerVan _ _

@[simp] theorem setup_vanRemoved (s : State) (d : DockNo) (m : SlotNo) (i : Nat) :
    (s.vanRemoved d m i).setup = s.setup := by simp [State.vanRemoved]

/-! ## Custody -/

@[simp] theorem setup_withdraw (s : State) (d : DockNo) (p : Cmd → Bool) :
    (s.withdraw d p).setup = s.setup := by
  have h := setup_updDock s d (fun k => { k with steps := k.steps.filter fun c => !p c }) fun _ => rfl
  unfold State.withdraw
  dsimp only
  split
  · exact h
  · exact h

@[simp] theorem setup_answerSide (s : State) (x : Side) (a : Answer) :
    (s.answerSide x a).setup = s.setup := by unfold State.answerSide; split <;> simp

@[simp] theorem setup_putClear (s : State) (d : DockNo) (r : Release) :
    (s.putClear d r).setup = s.setup := by unfold State.putClear; split <;> simp

@[simp] theorem setup_applyMark (s : State) (d : DockNo) (m : Marking) :
    (s.applyMark d m).setup = s.setup := by
  refine setup_updDock s d _ fun k => ?_
  split
  · rfl
  · split <;> rfl

@[simp] theorem setup_tellWithdrawn (s : State) (d : DockNo) (r : Release) (a : Answer) (o : VanOutcome) :
    (s.tellWithdrawn d r a o).setup = s.setup := by
  unfold State.tellWithdrawn
  split
  · simp
  · split <;> simp
  · split <;> simp

@[simp] theorem setup_releaseStays (s : State) (d : DockNo) (r : Release) (c : Custody) :
    (s.releaseStays d r c).setup = s.setup := by
  unfold State.releaseStays
  dsimp only
  split <;> simp [setup_updDock]

@[simp] theorem setup_cancelRelease (s : State) (d : DockNo) (r : Release) :
    (s.cancelRelease d r).setup = s.setup := by simp [State.cancelRelease]

@[simp] theorem setup_recordRemoval (s : State) (d : DockNo) (r : Release) (late : Bool) :
    (s.recordRemoval d r late).setup = s.setup := by unfold State.recordRemoval; dsimp only; split <;> simp

@[simp] theorem setup_tellGranted (s : State) (d : DockNo) (r : Release) :
    (s.tellGranted d r).setup = s.setup := by
  unfold State.tellGranted
  split
  · split <;> simp
  · simp

@[simp] theorem setup_removal (s : State) (d : DockNo) (late : Bool) :
    (s.removal d late).setup = s.setup := by
  unfold State.removal
  split
  · rfl
  · rw [setup_withdraw, setup_updDock _ d Dock.emptied fun _ => rfl]
    simp

@[simp] theorem setup_markJam (s : State) (d : DockNo) :
    (s.markJam d).setup = s.setup := by unfold State.markJam; split <;> simp

@[simp] theorem setup_jamContext (s : State) (d : DockNo) :
    (s.jamContext d).setup = s.setup := by
  unfold State.jamContext
  dsimp only
  split
  · rfl
  · rw [setup_releaseStays, setup_putClear]
    split <;> simp

@[simp] theorem setup_jamDock (s : State) (d : DockNo) :
    (s.jamDock d).setup = s.setup := by simp [State.jamDock, setup_updDock]

@[simp] theorem setup_writeBike (s : State) (d : DockNo) (n : Nat) :
    (s.writeBike d n).setup = s.setup := by
  unfold State.writeBike
  split
  · exact setup_after (fun _ => rfl) rfl
  · split
    · exact setup_after (fun _ => rfl) (by rw [setup_report])
    · split
      · exact setup_after (fun _ => rfl) (by rw [setup_removal])
      · exact setup_after (fun _ => rfl) (setup_updDock _ _ _ fun _ => rfl)

@[simp] theorem setup_startArrival (s : State) (d : DockNo) (t : Option TagRecord) :
    (s.startArrival d t).setup = s.setup := by simp [State.startArrival, setup_updDock]

@[simp] theorem setup_settleLocked (s : State) (d : DockNo) (a : Arrival) (w : Settlement) :
    (s.settleLocked d a w).setup = s.setup := by
  unfold State.settleLocked
  dsimp only
  split <;> simp [setup_updDock]

@[simp] theorem setup_arrivalMark (s : State) (d : DockNo) (a : Arrival) :
    (s.arrivalMark d a).setup = s.setup := by
  unfold State.arrivalMark
  split
  · exact setup_after (fun _ => rfl) (by rw [setup_report])
  · split
    · rfl
    · exact setup_updDock s d _ fun k => by split <;> rfl

@[simp] theorem setup_lockArrival (s : State) (d : DockNo) (a : Arrival) :
    (s.lockArrival d a).setup = s.setup := by
  unfold State.lockArrival
  dsimp only
  split <;> simp [setup_updDock]

@[simp] theorem setup_bikeMissing (s : State) (d : DockNo) :
    (s.bikeMissing d).setup = s.setup := by
  unfold State.bikeMissing
  refine setup_after (fun _ => rfl) ?_
  simp

@[simp] theorem setup_verifyEmpty (s : State) (d : DockNo) :
    (s.verifyEmpty d).setup = s.setup := by
  unfold State.verifyEmpty
  refine setup_after (fun _ => rfl) ?_
  split <;> simp

@[simp] theorem setup_verifyAccounted (s : State) (d : DockNo) (x : BikeReading) :
    (s.verifyAccounted d x).setup = s.setup := by
  unfold State.verifyAccounted
  dsimp only
  have h : ∀ t : State, (t.updDock d fun k => { k with custody := .docked }).setup = t.setup :=
    fun t => setup_updDock t d _ fun _ => rfl
  split <;> split <;> simp [setup_updDock]

@[simp] theorem setup_staleTest (s : State) (d : DockNo) (t : Option TagRecord) :
    (s.staleTest d t).setup = s.setup := by
  unfold State.staleTest
  split
  · split
    · simp
    · exact setup_after (fun _ => rfl) rfl
  · rfl

@[simp] theorem setup_resolveBike (s : State) (d : DockNo) (x : BikeReading) :
    (s.resolveBike d x).setup = s.setup := by
  unfold State.resolveBike
  split
  · simp
  · split <;> simp

@[simp] theorem setup_verifyReply (s : State) (d : DockNo) (w : Bool) (b : Option BikeReading) :
    (s.verifyReply d w b).setup = s.setup := by
  unfold State.verifyReply
  split
  · simp
  · simp
  · split <;> simp

@[simp] theorem setup_reconcileBike (s : State) (d : DockNo) (t : TagRecord) :
    (s.reconcileBike d t).setup = s.setup := by
  unfold State.reconcileBike
  split
  · rfl
  · split
    · simp
    · split
      · rfl
      · exact setup_after (fun _ => rfl) (by rw [setup_writeBike])

@[simp] theorem setup_dockedReply (s : State) (d : DockNo) (x : BikeReading) :
    (s.dockedReply d x).setup = s.setup := by
  unfold State.dockedReply
  dsimp only
  split <;> split <;> simp

@[simp] theorem setup_queryReply (s : State) (d : DockNo) (w : Bool) (b : Option BikeReading) :
    (s.queryReply d w b).setup = s.setup := by
  unfold State.queryReply
  dsimp only
  split <;> first
    | rfl
    | simp
    | (split <;> simp)

@[simp] theorem setup_unlockReply (s : State) (d : DockNo) (w : Nat) (x : PostStatus) :
    (s.unlockReply d w x).setup = s.setup := by
  unfold State.unlockReply
  split
  · rfl
  · split
    · rfl
    · split <;> simp

@[simp] theorem setup_verifyLock (s : State) (d : DockNo) (x : PostStatus) :
    (s.verifyLock d x).setup = s.setup := by
  unfold State.verifyLock
  dsimp only
  split
  · split
    · simp
    · split <;> simp
  · split
    · split
      · exact setup_after (fun _ => rfl) rfl
      · rfl
    · split <;> simp

@[simp] theorem setup_arrivalLock (s : State) (d : DockNo) (x : PostStatus) :
    (s.arrivalLock d x).setup = s.setup := by
  unfold State.arrivalLock
  split
  · rfl
  · split
    · rfl
    · split
      · simp
      · split
        · exact setup_after (fun _ => rfl) rfl
        · simp

@[simp] theorem setup_releaseLock (s : State) (d : DockNo) (x : PostStatus) :
    (s.releaseLock d x).setup = s.setup := by
  unfold State.releaseLock
  split
  · rfl
  · split
    · simp
    · split
      · rfl
      · split <;> simp

@[simp] theorem setup_lockReply (s : State) (d : DockNo) (x : PostStatus) :
    (s.lockReply d x).setup = s.setup := by
  unfold State.lockReply
  split <;> first
    | rfl
    | simp
    | skip
  split
  · rfl
  · split <;> simp

@[simp] theorem setup_withdrawGrant (s : State) (d : DockNo) (r : Release) (a : Answer) (o : VanOutcome) :
    (s.withdrawGrant d r a o).setup = s.setup := by simp [State.withdrawGrant]

@[simp] theorem setup_stampReply (s : State) (d : DockNo) (x : PostStatus) :
    (s.stampReply d x).setup = s.setup := by
  unfold State.stampReply
  split
  · rfl
  · split
    · rfl
    · split <;> simp

@[simp] theorem setup_clearFailed (s : State) (d : DockNo) :
    (s.clearFailed d).setup = s.setup := by
  unfold State.clearFailed
  refine setup_after (fun _ => rfl) ?_
  split <;> simp

@[simp] theorem setup_clearReply (s : State) (d : DockNo) (x : PostStatus) :
    (s.clearReply d x).setup = s.setup := by
  unfold State.clearReply
  split
  · exact setup_after (fun _ => rfl) rfl
  · simp

@[simp] theorem setup_lockLost (s : State) (d : DockNo) :
    (s.lockLost d).setup = s.setup := by
  unfold State.lockLost
  dsimp only
  split
  · split
    · simp
    · exact setup_after (fun _ => rfl) rfl
  · split <;> simp
  · split <;> simp
  · rfl
  · rfl
  · rfl

@[simp] theorem setup_unlockLost (s : State) (d : DockNo) :
    (s.unlockLost d).setup = s.setup := by
  unfold State.unlockLost
  split
  · rfl
  · split <;> simp

@[simp] theorem setup_stampWithdrawn (s : State) (d : DockNo) :
    (s.stampWithdrawn d).setup = s.setup := by
  unfold State.stampWithdrawn
  split
  · rfl
  · split <;> simp

@[simp] theorem setup_stampLost (s : State) (d : DockNo) :
    (s.stampLost d).setup = s.setup := by
  unfold State.stampLost
  exact setup_after (fun _ => rfl) (by rw [setup_stampWithdrawn])

@[simp] theorem setup_queryLost (s : State) (d : DockNo) :
    (s.queryLost d).setup = s.setup := setup_updDock s d _ fun k => by split <;> rfl

@[simp] theorem setup_lineFail (s : State) (d : DockNo) (c : Cmd) :
    (s.lineFail d c).setup = s.setup := by unfold State.lineFail; split <;> simp

@[simp] theorem setup_tellLost (s : State) (d : DockNo) (r : Release) :
    (s.tellLost d r).setup = s.setup := by
  unfold State.tellLost
  split
  · split <;> simp
  · simp

@[simp] theorem setup_freeze (s : State) (d : DockNo) :
    (s.freeze d).setup = s.setup := by
  have h : ∀ t : State, (t.updDock d fun q => q.frozen s.uptime).setup = t.setup :=
    fun t => setup_updDock t d _ fun _ => rfl
  have h2 : ∀ t : State, ((t.updDock d fun q => q.frozen s.uptime).dropHold d).setup = t.setup := fun t => by
    rw [setup_dropHold, h]
  unfold State.freeze
  dsimp only
  split
  · rw [h]
    split
    · split <;> simp
    · rfl
  · rw [h2]
    split
    · split <;> simp
    · rfl

@[simp] theorem setup_verifyNews (s : State) (d : DockNo) :
    (s.verifyNews d).setup = s.setup := by unfold State.verifyNews; split <;> simp

@[simp] theorem setup_removedNews (s : State) (d : DockNo) :
    (s.removedNews d).setup = s.setup := by unfold State.removedNews; split <;> simp

@[simp] theorem setup_pushBack (s : State) (d : DockNo) (t : Option TagRecord) :
    (s.pushBack d t).setup = s.setup := by unfold State.pushBack; split <;> simp

@[simp] theorem setup_insertNews (s : State) (d : DockNo) (t : Option TagRecord) :
    (s.insertNews d t).setup = s.setup := by
  unfold State.insertNews
  dsimp only
  split <;> first
    | rfl
    | simp
    | (split <;> simp)

/-! ## Authorisation -/

@[simp] theorem setup_grantRental (s : State) (d : DockNo) (c : Card) (p : Fin 8) (x : Side) :
    (s.grantRental d c p x).setup = s.setup := setup_after (fun _ => rfl) rfl

@[simp] theorem setup_grantVan (s : State) (d : DockNo) (m : SlotNo) (i : Nat) (b : Bool) :
    (s.grantVan d m i b).setup = s.setup := setup_after (fun _ => rfl) rfl

@[simp] theorem setup_grantVans (m : SlotNo) (i : Nat) (ds : List DockNo) (s : State) :
    (grantVans m i ds s).1.setup = s.setup := by
  induction ds generalizing s with
  | nil => rfl
  | cons d ds ih =>
    unfold grantVans
    split
    · exact (ih _).trans (setup_grantVan s d m i false)
    · rfl

@[simp] theorem setup_staffTap (s : State) (d : DockNo) (n : Serial) :
    (s.staffTap d n).setup = s.setup := by
  unfold State.staffTap
  split
  · simp
  · split
    · split
      · simp
      · split
        · simp
        · split <;> simp
    · simp

@[simp] theorem setup_tapNews (s : State) (d : DockNo) (n : Serial) :
    (s.tapNews d n).setup = s.setup := by
  unfold State.tapNews
  split
  · simp
  · split <;> simp
  · simp

@[simp] theorem setup_judgeReport (s : State) (r : Report) : (s.judgeReport r).1.setup = s.setup := by
  simp only [State.judgeReport, setup_takeReport]
  split
  · split <;> simp
  · rfl

@[simp] theorem setup_keyNews (s : State) (d : DockNo) (code : Nat) :
    (s.keyNews d code).setup = s.setup := setup_judgeReport s _

/-! ## The line controller -/

@[simp] theorem setup_countError (s : State) (d : DockNo) :
    (s.countError d).setup = s.setup := rfl

@[simp] theorem setup_pendingLost (s : State) (d : DockNo) (c : Cmd) :
    (s.pendingLost d c).setup = s.setup := by unfold State.pendingLost; split <;> simp

@[simp] theorem setup_handBack (s : State) (d : DockNo) :
    (s.handBack d).setup = s.setup := by
  have h : { s with line := s.line.clearSlot d }.setup = s.setup := rfl
  unfold State.handBack
  dsimp only
  split
  · split
    · rw [setup_pendingLost, h]
    · exact h
  · exact h

@[simp] theorem setup_dropDock (s : State) (d : DockNo) :
    (s.dropDock d).setup = s.setup := by simp [State.dropDock]

@[simp] theorem setup_exchangeLost (s : State) (x : Exchange) :
    (s.exchangeLost x).setup = s.setup := by unfold State.exchangeLost; split <;> simp

@[simp] theorem setup_probeFailed (s : State) (d : DockNo) :
    (s.probeFailed d).setup = s.setup := rfl

@[simp] theorem setup_retry (s : State) (x : Exchange) :
    (s.retry x).setup = s.setup := rfl

@[simp] theorem setup_failExchange (s : State) (x : Exchange) (last : Bool) :
    (s.failExchange x last).setup = s.setup := by
  unfold State.failExchange
  dsimp only
  split <;> split <;> simp

@[simp] theorem setup_badTry (s : State) (x : Exchange) :
    (s.badTry x).setup = s.setup := by
  unfold State.badTry
  split
  · simp
  · split
    · simp
    · dsimp only
      split <;> simp

@[simp] theorem setup_endGood (s : State) (x : Exchange) :
    (s.endGood x).setup = s.setup := by unfold State.endGood; split <;> simp

@[simp] theorem setup_recoverDock (s : State) (d : DockNo) :
    (s.recoverDock d).setup = s.setup := by
  unfold State.recoverDock
  rw [setup_updLane]
  refine setup_updDock s d _ fun k => ?_
  unfold Dock.recovered
  dsimp only
  split <;> rfl

@[simp] theorem setup_statusReply (s : State) (x : Exchange) (c : PostStatus) :
    (s.statusReply x c).setup = s.setup := by unfold State.statusReply; split <;> simp

@[simp] theorem setup_endRound (s : State) (call : Bool) :
    (s.endRound call).setup = s.setup := rfl

@[simp] theorem setup_acknowledge (s : State) (w : Nat) (q : Bool) :
    (s.acknowledge w q).setup = s.setup := rfl

@[simp] theorem setup_hurryProbe (s : State) (d : DockNo) :
    (s.hurryProbe d).setup = s.setup := by unfold State.hurryProbe; split <;> simp

theorem setup_routeNews (s : State) (d : DockNo) (seq : Bool) (take : State → DockNo → State)
    (h : ∀ t d, (take t d).setup = t.setup) : (s.routeNews d seq take).setup = s.setup := by
  unfold State.routeNews
  split
  · rfl
  · dsimp only
    split <;> simp [h]

theorem setup_goodNewsFrame (s : State) (w : Nat) (n : NewsHead) (take : State → DockNo → State)
    (h : ∀ t d, (take t d).setup = t.setup) : (s.goodNewsFrame w n take).setup = s.setup := by
  unfold State.goodNewsFrame
  dsimp only
  split
  · simp
  · rw [setup_routeNews _ _ _ _ h]
    simp

@[simp] theorem setup_badNews (s : State) (w : Nat) (call : Bool) :
    (s.badNews w call).setup = s.setup := by
  unfold State.badNews
  dsimp only
  split
  · simp
  · split <;> simp

@[simp] theorem setup_keyItem (s : State) (d : DockNo) (code : Nat) :
    (s.keyItem d code).setup = s.setup := by unfold State.keyItem; split <;> simp

@[simp] theorem setup_newsItem (s : State) (d : DockNo) (n : News) :
    (s.newsItem d n).setup = s.setup := by unfold State.newsItem; split <;> simp

/-! ## Steps -/

@[simp] theorem setup_conclude (before s : State) : (conclude before s).setup = s.setup :=
  endsAs_setup (conclude_endsAs before s)

theorem setup_replyStep (call : Bool) (fits : Exchange → Bool) (take : Exchange → State → State)
    (h : ∀ x t, (take x t).setup = t.setup) (s : State) : (replyStep call fits take s).setup = s.setup := by
  unfold replyStep
  split
  · rfl
  · rw [setup_conclude]
    split
    · simp
    · split <;> simp [h]

theorem setup_newsStep (n : NewsHead) (take : State → DockNo → State) (h : ∀ t d, (take t d).setup = t.setup) (s : State) :
    (newsStep n take s).setup = s.setup := by
  unfold newsStep
  split
  · rw [setup_conclude, setup_goodNewsFrame _ _ _ _ h]
  · rfl

end Sys2Proof.Machine
end

