-- ==== Sys2Proof/Tests/Slice0.lean ====
section
/-! SUPPORT. Tests: the encodings and the worked examples of the spec, one step at a time; a term each check of
`Instr.wellFormed` refuses; and for each statement with hypotheses a state and operands that meet them.  Expected values are
the spec's, or worked by hand from its rules; each test names its source. -/

namespace Sys2Proof.Tests

open Sys2Proof Sys2Proof.Machine

-- The tests are elaborated one after another: many at once need more threads than the check's memory allows.
set_option Elab.async false

/-! ## A small station -/

/-- The state after a command. -/
def after (i : Instr) (s : State) : State := match exec i s with
  | .next t => t
  | .fault _ => s
  | .refused _ => s

/-- A request frame's link with tag 1. -/
def on (p : PortId) : Link := ⟨p, 1, none⟩

/-- A long frame with tag 1 whose checksum field is 0000h. -/
def long (p : PortId) : LongFrame := ⟨on p, 0, none⟩

/-- The last reply in a port's queue. -/
def reply (p : PortId) (s : State) : Option Answer := (s.port p).queue.getLast?.map Reply.answer

def serialA : Serial := 0x04A1B2C3D4E5F6
def serialG : Serial := 0x04A1B2C3D4E5F7
def serialS : Serial := 0x05000000000001

def cardA : Card :=
  { serial := serialA, body := .member 1000 1 2400 none, status := .active, trips := 0, expiry := none, lastUse := none }
def cardG : Card :=
  { serial := serialG, body := .guest 317 3 1000 none, status := .active, trips := 0, expiry := some 6000900, lastUse := none }
def cardS : Card :=
  { serial := serialS, body := .staff 7, status := .active, trips := 0, expiry := none, lastUse := none }

/-- A bike with a number that has stood in its dock since a station time. -/
def holds (n since : Nat) (k : Dock) : Dock := { k with mapped := true, custody := .docked, bike := some n, since := some (.clock since) }

/-- Station 412 at station time 6,000,000 and uptime 5,000: dock 1 holds bike 20,101, dock 2 is EMPTY, dock 3 holds bike
20,103; three cards; the ports take frames without checksums; the counts are those of chapter 11. -/
def base : State :=
  let s : State :=
    { State.reset with
      clock := some 6000000, uptime := 5000, tripSerial := 88140, nextGuest := 317
      settings := { Settings.cold with
        stationNumber := 412, sumKiosk := false, sumBackhaul := false, sumService := false }
      map := ((State.reset.map.set 0 (some 1)).set 1 (some 2)).set 2 (some 3)
      tariffs := (State.reset.tariffs.set 1 ⟨30, 30, 120, 1000, 1, 200, 50⟩).set 3 ⟨30, 20, 150, 0, 1, 300, 0⟩
      journal := ⟨[], 3255, 0⟩, cards := [cardA, cardG, cardS] }
  ((s.updDock 0 (holds 20101 5970000)).updDock 1 fun k => { k with mapped := true }).updDock 2 (holds 20103 5941500)

/-- The station with an exchange of a command in flight at a dock. -/
def asked (d : DockNo) (c : Cmd) (o : Origin) (s : State) : State :=
  { s with line := { s.line with arbiter := .exchange ⟨d, d.val + 1, c, o, 1, false⟩ } }

/-- The station with a call round won by a dock's post. -/
def called (d : DockNo) (s : State) : State := { s with line := { s.line with arbiter := .round (some (d.val + 1)) } }

def news : NewsHead := ⟨true, false⟩

/-- A trip stamp on a tag. -/
def tagStamp (station start : Nat) : StampWords := ⟨BitVec.ofNat 16 station, 9, BitVec.ofNat 32 start, serialA, 1, 77⟩

/-- A state block: a bike with its latch closed and a readable tag, with a stamp or none. -/
def block (n : BitVec 24) (st : Option StampWords) : StateBlock :=
  ⟨if st.isSome then 0x0F else 0x07, n, 0, st.getD ⟨0, 0, 0, 0, 0, 0⟩⟩

/-- A state block without a bike. -/
def noBike : StateBlock := ⟨0, 0, 0, ⟨0, 0, 0, 0, 0, 0⟩⟩

/-- A release. -/
def release (p : Purpose) (ph : Phase) (until_ : Option Nat) (waiting : Bool) : Release :=
  { purpose := p, phase := ph, deadline := until_, stopped := none, pendingMark := none, waiting }

def stampA : Stamp := ⟨412, 1, 5999000, serialA, false, 1, 88140⟩

def rental : Purpose := .rental stampA (.kiosk 2)

/-- Dock 1 in a release with a reserved slot. -/
def releasing (p : Purpose) (ph : Phase) (until_ : Option Nat) : State :=
  ({ base with journal := ⟨[], 3255, 1⟩ } : State).updDock 0 fun k =>
    { k with custody := .releasing, release := some (release p ph until_ true) }

/-- Dock 1 in an arrival that waits for its LOCK. -/
def arriving (tag : Option TagRecord) : State := base.updDock 0 fun k =>
  { k with
    custody := .arriving, since := none
    arrival := some { time := .clock 6000000, clockLate := false, tag, lowFill := false, locked := none } }

/-- Dock 1 in VERIFY without a context. -/
def verifying : State := base.updDock 0 fun k => { k with custody := .verify }

/-- Dock 1 LOST with its probe due. -/
def lost : State := (base.updDock 0 fun k => { k with link := .lost }).updLane 0 fun y => { y with probeAt := some 5000 }

/-- Dock 1 in VERIFY with the context of a rental. -/
def verifyingRental : State := ({ base with journal := ⟨[], 3255, 1⟩ } : State).updDock 0 fun k =>
  { k with custody := .verify, verifyCtx := some (release rental .opened none false) }

def unloadLine : MLine :=
  { action := .unload, filter := .any, asked := 3, reserved := 0, done := 0, displaced := 0, reservedAtClose := none }
def loadLine : MLine :=
  { action := .load, filter := .any, asked := 1, reserved := 1, done := 0, displaced := 0, reservedAtClose := none }

/-- Manifest 915 in slot 0. -/
def manifest (st : MState) : Manifest :=
  { id := 915, state := st, origin := .backhaul, staff := if st = .active then some serialS else none
    stagedUntil := if st = .staged then some 6007680 else none, idleAt := if st = .active then some 5600 else none
    reason := if st = .closing then some .done else none, waiting := false
    lines := if st = .closing then [{ loadLine with reservedAtClose := some 1 }] else [loadLine] }

/-- The station with manifest 915 in slot 0, whose LOAD line holds dock 1. -/
def withManifest (st : MState) : State :=
  ({ base with manifests := base.manifests.set 0 (some (manifest st)) } : State).updDock 0 fun k =>
    { k with hold := some ⟨0, 0⟩ }

/-- A journal of three START records, 3,252 to 3,254. -/
def journal3 : Journal :=
  { records := [3252, 3253, 3254].map fun n =>
      { number := n, body := .start serialA false 1 n, time := .clock 5999000, dock := 1, bike := 9, flags := {} }
    next := 3255, reserved := 0 }

/-- A fault record of dock 1's bike. -/
def fault (n : Nat) (sent : Bool) (code repeats : Nat) : FaultRecord :=
  { number := n, sent, source := .central, code, first := .clock 5999000, dock := some 0, bike := some 20101, reporter := none
    repeats }

def tariffIn : TariffWords := ⟨30, 30, 120, 1000, 1, 200, 50⟩

/-! ## Encodings -/

/-- 8, the first burst: CARD_QUERY with tag 1, kind 5 and bytes 03h, 00h has check byte 0Dh; an all-zero IDLE header has 0. -/
theorem test_check_byte : checkByte (headerOf 1 5 3) = 0x0D#8 ∧ checkByte (headerOf 0 0 0) = 0#8 := by decide +kernel

/-- 8: bit 9 lost is restored; bits 8 and 9 lost are uncorrectable. -/
theorem test_header_errors :
    checkHeader (headerOf 1 5 3 ^^^ 0x200#24) 0x0D#8 = .stands (headerOf 1 5 3) true
      ∧ checkHeader (headerOf 1 5 3 ^^^ 0x300#24) 0x0D#8 = .uncorrectable := by decide +kernel

/-- R157: the empty payload has checksum FFFFh. The bytes 31h to 39h give 6F91h: the published check value of the CRC with
this generator, bit order, preset and no inversion (CRC-16/MCRF4XX). -/
theorem test_checksum : checksum [] = 0xFFFF#16
    ∧ checksum [0x31, 0x32, 0x33, 0x34, 0x35, 0x36, 0x37, 0x38, 0x39] = 0x6F91#16 := by decide +kernel

/-- R31, R32: UNLOCK with a window of 20 s to address 15: 0Fh 02h 02h 14h 00h and the sum D9h, each with odd parity. -/
theorem test_unlock_frame : lineFrame true 15 2 [0x14, 0x00] =
    [⟨0x0F, true⟩, ⟨0x02, false⟩, ⟨0x02, false⟩, ⟨0x14, true⟩, ⟨0x00, true⟩, ⟨0xD9, false⟩] := by decide +kernel

/-- R190: MANIFEST_STAGE of 730 for 60 minutes with lines UNLOAD ANY 3 and LOAD FAULTY 2, by its bytes. -/
theorem test_stage_payload : (Instr.manifestStage (long .backhaul) 730 60 [⟨0x80, 3⟩, ⟨0x02, 2⟩]).layout =
    some (45, [0xDA, 0x02, 60, 2, 0x80, 3, 0x02, 2]) := by decide +kernel

/-- R190: CARD_CREDIT of -500, in two's complement, least significant byte first, after the serial's byte 0 first. -/
theorem test_credit_payload : (Instr.cardCredit (long .backhaul) serialA (BitVec.ofInt 32 (-500))).layout =
    some (34, [0x04, 0xA1, 0xB2, 0xC3, 0xD4, 0xE5, 0xF6, 0x0C, 0xFE, 0xFF, 0xFF]) := by decide +kernel

/-- R192: a bike without a readable tag is "no tag"; a mark of 16 is no mark; the plan is the card byte's low three bits. -/
theorem test_state_block : readBlock ⟨0x03, 5, 9, tagStamp 77 0⟩ = some ⟨true, none⟩
    ∧ (readBlock ⟨0x15, 5, 16, tagStamp 77 0⟩).bind BikeReading.tag = some ⟨5, none, none⟩
    ∧ (stampOfWords { tagStamp 77 0 with card := 0xFB }).plan = 3 ∧ (stampOfWords { tagStamp 77 0 with card := 0xFB }).guest = true := by
  decide +kernel

/-- R34: a reply of another address, of a wrong sum, or with a status its command has not, is bad. -/
theorem test_good_reply :
    let x : Exchange := ⟨0, 15, .lock, .custody, 1, false⟩
    goodReply Settings.cold x (lineFrame true 15 3 [1]) = some (.status .locked)
      ∧ goodReply Settings.cold x (lineFrame true 14 3 [1]) = none
      ∧ goodReply Settings.cold x (lineFrame false 15 3 [1]) = none
      ∧ goodReply Settings.cold x (lineFrame true 15 3 [0]) = none
      ∧ goodReply Settings.cold x (lineFrame true 15 3 [1, 1]) = none := by decide +kernel

/-- R33, R37: TAP news with sequence bit 1, and a frame of another address. -/
theorem test_good_news : goodNews Settings.cold 12 (lineFrame true 12 0xA0 (serialBytes serialA)) = some (true, .tap serialA)
    ∧ goodNews Settings.cold 12 (lineFrame true 11 0x24 []) = none := by decide +kernel

/-- No row of the opcode table gives bits. -/
theorem test_no_table_word : decodeTableWord 0 0 = none ∧ (State.reset.withFetchWord 0 0).pending = [] := ⟨rfl, rfl⟩

/-! ## Well-formedness -/

/-- Each check refuses a command its row cannot stand for, and takes one it can. -/
theorem test_wellFormed_misfit :
    (Instr.cardDrop { long .backhaul with misfit := some (List.replicate 7 0) } 0).wellFormed = false
      ∧ (Instr.cardDrop { long .backhaul with misfit := some (List.replicate 513 0) } 0).wellFormed = false
      ∧ (Instr.cardDrop { long .backhaul with misfit := some [] } 0).wellFormed = true
      ∧ (Instr.bikeMarkSet { long .backhaul with misfit := some [1, 2, 0, 0, 0, 0] } 1 1 0).wellFormed = true
      ∧ (Instr.bikeMarkSet { long .backhaul with misfit := some [1, 1, 0, 0, 0, 0] } 1 1 0).wellFormed = false := by
  decide +kernel

theorem test_wellFormed_lists :
    (Instr.manifestStage (long .backhaul) 1 5 (List.replicate 255 ⟨0, 1⟩)).wellFormed = false
      ∧ (Instr.manifestStage (long .backhaul) 1 5 (List.replicate 254 ⟨0, 1⟩)).wellFormed = true
      ∧ (Instr.manifestOpen (long .service) 1 1 0 (List.replicate 251 ⟨0, 1⟩)).wellFormed = false
      ∧ (Instr.faultAck (long .backhaul) 0 (List.replicate 171 ⟨1, 1⟩)).wellFormed = false
      ∧ (Instr.faultAck (long .backhaul) 0 (List.replicate 170 ⟨1, 1⟩)).wellFormed = true := by decide +kernel

theorem test_wellFormed_cursorWrite :
    (Instr.cursorWrite (long .backhaul) (.other (List.replicate 28 0))).wellFormed = false
      ∧ (Instr.cursorWrite (long .backhaul) (.other [0, 0])).wellFormed = false
      ∧ (Instr.cursorWrite { long .backhaul with misfit := some [0] } (.map 0 0)).wellFormed = false
      ∧ (Instr.cursorWrite (long .backhaul) (.other [0])).wellFormed = true := by decide +kernel

theorem test_wellFormed_unassigned :
    (Instr.unassignedKindFrame (long .kiosk) 5 0 []).wellFormed = false
      ∧ (Instr.unassignedKindFrame (long .kiosk) 0 0 []).wellFormed = false
      ∧ (Instr.unassignedKindFrame (long .kiosk) 14 0 [1]).wellFormed = false
      ∧ (Instr.unassignedKindFrame (long .kiosk) 63 1 []).wellFormed = false
      ∧ (Instr.unassignedKindFrame (long .kiosk) 14 7 []).wellFormed = true
      ∧ (Instr.unassignedKindFrame (long .kiosk) 63 0 [1]).wellFormed = true := by decide +kernel

theorem test_wellFormed_headers :
    (Instr.headerError .kiosk (headerOf 1 5 3) 0x0D).wellFormed = false
      ∧ (Instr.headerError .kiosk (headerOf 1 5 3 ^^^ 0x200) 0x0D).wellFormed = false
      ∧ (Instr.headerError .kiosk (headerOf 1 5 3 ^^^ 0x300) 0x0D).wellFormed = true
      ∧ (Instr.headerError .kiosk (headerOf 1 38 513) (checkByte (headerOf 1 38 513))).wellFormed = true
      ∧ (Instr.selectReleased .kiosk [0x45, 3, 0, 0x0D]).wellFormed = false
      ∧ (Instr.selectReleased .kiosk [0x45, 3, 0]).wellFormed = true
      ∧ (Instr.selectReleased .kiosk []).wellFormed = true := by decide +kernel

/-! ## Worked numbers -/

/-- The plans of chapter 4's cases. -/
def plan2 : Tariff := ⟨30, 30, 150, 1200, 2, 0, 100⟩
def plan5 : Tariff := ⟨0, 1, 5000, 0, 1, 0, 1000⟩

/-- 4, an ordinary ride into a low-fill station: D 4,705 gives 300, 100 and 200. -/
theorem test_charge_ordinary : rideCharge plan2 1000000 1004705 true =
    { time := ⟨4705, false, false⟩, gross := 300, capped := false, credit := 100, creditFlag := true, net := 200 } := by
  decide +kernel

/-- 4, a ride over a day: D 97,200 is capped at 2,400; 86,400 at 1,200 and 86,401 at 2,400. -/
theorem test_charge_cap : (rideCharge plan2 0 97200 false).gross = 2400 ∧ (rideCharge plan2 0 97200 false).capped = true
    ∧ (rideCharge plan2 0 86400 true).net = 1100 ∧ (rideCharge plan2 0 86401 true).net = 2300 := by decide +kernel

/-- 4, the edges of the free minutes: 1,800 s is free and 1,801 s is not. -/
theorem test_charge_free : (rideCharge plan2 0 1800 true).net = 0 ∧ (rideCharge plan2 0 1801 true).net = 50 := by
  decide +kernel

/-- 4, the limits of plan 5: one second, clock skew, and four days out. -/
theorem test_charge_limits : (rideCharge plan5 0 1 true).net = 4000
    ∧ (rideCharge plan5 100 50 true).time = ⟨0, true, false⟩ ∧ (rideCharge plan5 100 50 true).net = 0
    ∧ (rideCharge plan5 0 345600 false).time = ⟨259200, false, true⟩ ∧ (rideCharge plan5 0 345600 false).net = 21600000 := by
  decide +kernel

/-! ## Commands, one step each

Expected values are those of the worked examples where one shows the command, and worked from its rule by hand elsewhere. -/

/-- R61: a balance above 10,000,000 is clamped; a serial that a GUEST entry holds is refused. -/
theorem test_cardPut :
    let put (n : Serial) : State := after (.cardPut (long .backhaul) ⟨n, 0, 500, 2, 0, 10000001, 0, 0⟩) base
    (findCard (put 9) 9).map Card.body = some (.member 500 2 10000000 none) ∧ reply .backhaul (put 9) = some ⟨.clamped, none, none⟩
      ∧ reply .backhaul (put serialG) = some ⟨.duplicate, none, none⟩ := by decide +kernel

/-- 3, a deferred settlement after a credit: 300 and 1,000 make 1,300. -/
theorem test_cardCredit :
    let t := after (.cardCredit (long .backhaul) serialA 1000)
      { base with cards := [{ cardA with body := .member 1000 1 300 none }] }
    t.cards.map Card.body = [.member 1000 1 1300 none] ∧ reply .backhaul t = some ⟨.ok, none, some [0x14, 0x05, 0, 0]⟩ := by
  decide +kernel

/-- R64, codes of R190. -/
theorem test_cardStatus :
    (after (.cardStatus (long .backhaul) serialA 2) base).cards.map Card.status = [.denied, .active, .active] := by
  decide +kernel

/-- R65: 9 becomes 7 and is CLAMPED. -/
theorem test_cardTrips :
    let t := after (.cardTrips (long .backhaul) serialA 9) base
    t.cards.map Card.trips = [7, 0, 0] ∧ reply .backhaul t = some ⟨.clamped, none, none⟩ := by decide +kernel

/-- R65: a GUEST whose expiry is reached and whose count becomes 0 is removed. -/
theorem test_cardTrips_removes :
    (after (.cardTrips (long .backhaul) serialG 0)
      { base with clock := some 6000900, cards := [cardA, { cardG with trips := 1 }] }).cards = [cardA] := by decide +kernel

/-- R66: on another port it is not permitted (R163). -/
theorem test_cardDrop : (after (.cardDrop (long .backhaul) serialG) base).cards = [cardA, cardS]
    ∧ reply .kiosk (after (.cardDrop (long .kiosk) serialG) base) = some ⟨.notPermitted, none, none⟩ := by decide +kernel

/-- R67, 10.5: the 31 bytes of card A. -/
theorem test_cardQuery : reply .kiosk (after (.cardQuery (long .kiosk) serialA) base) = some ⟨.ok, none, some
    [0x04, 0xA1, 0xB2, 0xC3, 0xD4, 0xE5, 0xF6, 0, 0xE8, 0x03, 0, 1, 0, 0x60, 0x09, 0, 0, 0, 0, 0, 0, 0, 0, 0, 0, 0, 0, 0, 0, 0, 0]⟩ := by
  decide +kernel

/-- R189: position 3 is at the number of entries held. -/
theorem test_cardQueryShortForm :
    reply .kiosk (after (.cardQueryShortForm (on .kiosk) 3) base) = some ⟨.range, none, none⟩
      ∧ (reply .kiosk (after (.cardQueryShortForm (on .kiosk) 2) base)).map Answer.status = some .ok := by decide +kernel

/-- 3, a guest whose pass runs out: number 317, and expiry 1,503,600 from 1,500,000 and 60 minutes. -/
theorem test_guestIssue :
    let t := after (.guestIssue (long .kiosk) 3 0 500 60) { base with clock := some 1500000, cards := [] }
    t.cards = [{ serial := 3, body := .guest 317 0 500 none, status := .active, trips := 0, expiry := some 1503600, lastUse := none }]
      ∧ t.nextGuest = 318 ∧ reply .kiosk t = some ⟨.ok, none, some [0x3D, 0x01, 0x70, 0xF1, 0x16, 0]⟩ := by decide +kernel

/-- 11, an app rental: card A at dock 3 is granted trip serial 88,141 with a reserved slot, and no reply is made yet. -/
theorem test_releaseDock :
    let t := after (.releaseDock (long .backhaul) serialA 3) base
    (t.dock 2).custody = .releasing ∧ (t.dock 2).release.map Release.phase = some .stamping ∧ t.tripSerial = 88141
      ∧ t.journal.reserved = 1 ∧ reply .backhaul t = none := by decide +kernel

/-- R71 step 6, 3 "one rider, two claims": a second rental of card A is at its limit. -/
theorem test_releaseDock_limit :
    reply .backhaul (after (.releaseDock (long .backhaul) serialA 3) (releasing rental .opened none)) = some ⟨.limit, none, none⟩ := by
  decide +kernel

/-- 11, the pick of R26: of docks 1 and 3, dock 3 has the earlier docked since, 5,941,500. -/
theorem test_releaseAny :
    let t := after (.releaseAny (long .kiosk) serialG) base
    (t.dock 0).custody = .docked ∧ (t.dock 2).custody = .releasing := by decide +kernel

/-- R81: a limit of 9 is clamped to 7, and the reply carries the record as stored. -/
theorem test_tariffPut :
    let t := after (.tariffPut (long .backhaul) 5 { tariffIn with limit := 9 }) base
    t.tariffs.get 5 = ⟨30, 30, 120, 1000, 7, 200, 50⟩ ∧ (reply .backhaul t).map Answer.status = some .clamped := by
  decide +kernel

/-- R107, 10.5: a number that is not held is answered RANGE, with the summary and a count of 0 records. -/
theorem test_journalRead_range :
    reply .backhaul (after (.journalRead (long .backhaul) 3251) { base with journal := journal3 })
      = some ⟨.range, none, some [0xB4, 0x0C, 0, 0, 0xB7, 0x0C, 0, 0, 3, 0, 0, 0, 0, 0, 0]⟩ := by decide +kernel

/-- R107: from 3,254, one record of 27 bytes behind a summary of 14 and the count. -/
theorem test_journalRead :
    let r := reply .backhaul (after (.journalRead (long .backhaul) 3254) { base with journal := journal3 })
    r.bind Answer.content = some ([0xB4, 0x0C, 0, 0, 0xB7, 0x0C, 0, 0, 3, 0, 0, 0, 0, 0, 1]
      ++ [0xB6, 0x0C, 0, 0, 0, 0, 0, 0x98, 0x89, 0x5B, 0, 1, 9, 0, 0]
      ++ [0x04, 0xA1, 0xB2, 0xC3, 0xD4, 0xE5, 0xF6, 1, 0xB6, 0x0C, 0, 0]) := by decide +kernel

/-- R108: taking 3,253 removes two of three; 3,251 is not held. -/
theorem test_journalTake :
    let t (n : BitVec 32) : State := after (.journalTake (long .backhaul) n) { base with journal := journal3 }
    (t 3253).journal.records.map JournalRecord.number = [3254]
      ∧ reply .backhaul (t 3251) = some ⟨.range, none, none⟩ := by decide +kernel

/-- R105, 11: a JOURNAL_TAKE makes room for dock 1's END, which is DEFERRED. -/
theorem test_journalTake_drains :
    let s := base.updDock 0 fun k => { k with settle := some ⟨.ended false stampA, .clock 5999800, false, false, 20101⟩ }
    let t := after (.journalTake (long .backhaul) 3254) { s with journal := journal3 }
    t.journal.records.map (fun r => (r.number, r.dock, r.flags.deferred)) = [(3255, 1, true)] ∧ (t.dock 0).settle = none := by
  decide +kernel

/-- 11: manifest 915 for 60 minutes at 6,000,000 takes slot 0 until 6,003,600, and its UNLOAD line takes the EMPTY dock. -/
theorem test_manifestStage :
    let t := after (.manifestStage (long .backhaul) 915 60 [⟨0x80, 3⟩]) base
    (t.manifests.get 0).map (fun x => (x.state, x.stagedUntil)) = some (.staged, some 6003600)
      ∧ (t.dock 1).hold = some ⟨0, 0⟩ ∧ (t.dock 0).hold = none
      ∧ (reply .backhaul t).bind Answer.content = some [0, 0x93, 0x03, 1, 0x80, 3, 1, 0] := by decide +kernel

/-- R115: claimed for staff S with an idle deadline of 600 s; a MEMBER serial is NOT_STAFF. -/
theorem test_manifestOpen :
    let t (n : Serial) : State := after (.manifestOpen (long .service) n 915 0 []) (withManifest .staged)
    ((t serialS).manifests.get 0).map (fun x => (x.state, x.staff, x.idleAt)) = some (.active, some serialS, some 5600)
      ∧ reply .service (t serialA) = some ⟨.notStaff, none, none⟩ := by decide +kernel

/-- R121: the held dock is released for the van, and the reply waits. -/
theorem test_manifestRelease :
    let t := after (.manifestRelease (on .service) 0 1) (withManifest .active)
    (t.dock 0).custody = .releasing ∧ t.journal.reserved = 1
      ∧ t.vanWaits = [{ tag := 1, entries := [⟨0, none⟩] }] := by decide +kernel

/-- R129 to R131: a close with no van release frees the slot with a VAN_CLOSE, and the reply names slot 0FFh, reason DONE. -/
theorem test_manifestClose :
    let t := after (.manifestClose (on .service) 915) (withManifest .active)
    t.manifests.get 0 = none ∧ (t.dock 0).hold = none ∧ reply .service t = some ⟨.ok, none, some [0xFF, 1]⟩
      ∧ t.journal.records.map (fun r => (r.number, r.body)) = [(3255, .vanClose 915 .done [⟨.load, 1, 1, 0, 0⟩])] := by
  decide +kernel

/-- R132, 10.5: the slot's 20 bytes, the line's 6, and the held dock. -/
theorem test_manifestQuery :
    (reply .kiosk (after (.manifestQuery (on .kiosk) 915) (withManifest .staged))).bind Answer.content = some
      ([0, 1, 0x93, 0x03, 4, 0, 0, 0, 0, 0, 0, 0, 0, 0x80, 0xAB, 0x5B, 0, 0xFF, 0xFF, 1] ++ [0, 1, 1, 0, 0, 0xFF] ++ [1, 0]) := by
  decide +kernel

/-- R139 and the cold policy of code 2: the bike is marked, and record 1 is NEW with the mark sent. -/
theorem test_faultReport :
    let t := after (.faultReport (long .kiosk) 1 2 0 0) base
    (t.dock 0).mark = some 2 ∧ reply .kiosk t = some ⟨.ok, none, some [0, 1, 0, 1]⟩
      ∧ t.faults.queue.map (fun r => (r.code, r.dock, r.bike, r.source)) = [(2, some 0, some 20101, .kiosk)] := by decide +kernel

/-- R145, 10.5: the summary with the cold policy (codes 1-6, 11-13), a count of 1, and record 42's 21 bytes. -/
theorem test_faultRead :
    let s := { base with faults := { base.faults with queue := [fault 41 true 8 1, fault 42 false 4 2], next := 43 } }
    (reply .backhaul (after (.faultRead (on .backhaul) 0) s)).bind Answer.content = some
      ([2, 1, 43, 0, 0, 0x7E, 0x38, 1] ++ [42, 0, 6, 4, 3, 0x98, 0x89, 0x5B, 0, 1, 0x85, 0x4E, 0, 0, 0, 0, 0, 0, 0, 0, 2]) := by
  decide +kernel

/-- 7, a rider's report: record 42 with repeats 2 is acknowledged by the repeats read, and not by 1. -/
theorem test_faultAck :
    let s := { base with faults := { base.faults with queue := [fault 42 false 4 2] } }
    let t (r : Byte) : State := after (.faultAck (long .backhaul) 0 [⟨42, r⟩]) s
    (t 2).faults.queue.map FaultRecord.sent = [true] ∧ (t 1).faults.queue.map FaultRecord.sent = [false]
      ∧ ((reply .backhaul (t 1)).bind Answer.content).map (List.take 3) = some [0, 1, 0] := by decide +kernel

/-- R147. -/
theorem test_faultDrop :
    let s := { base with faults := { base.faults with queue := [fault 41 true 8 1, fault 42 false 4 2] } }
    (after (.faultDrop (on .backhaul) 41) s).faults.queue = [fault 42 false 4 2] := by decide +kernel

/-- R140: code 8 becomes QUARANTINE; code 10 is fixed. -/
theorem test_policySet :
    (after (.policySet (on .backhaul) 8 1) base).faults.policy.get 7 = .quarantine
      ∧ reply .backhaul (after (.policySet (on .backhaul) 10 1) base) = some ⟨.badRequest, none, none⟩ := by decide +kernel

/-- R148: SET marks the bike expected; another bike number is NOT_FOUND. -/
theorem test_bikeMarkSet :
    (after (.bikeMarkSet (long .backhaul) 1 3 20101) base).docks.toList.head?.bind Dock.mark = some 3
      ∧ reply .backhaul (after (.bikeMarkSet (long .backhaul) 1 3 20102) base) = some ⟨.notFound, none, none⟩ := by decide +kernel

/-- R148: CLEAR removes the mark and makes a record of code 14; mark sent is 0. -/
theorem test_bikeMarkClear :
    let t := after (.bikeMarkClear (long .backhaul) 1 0 0) (base.updDock 0 fun k => { k with mark := some 3 })
    (t.dock 0).mark = none ∧ t.faults.queue.map FaultRecord.code = [14]
      ∧ reply .backhaul t = some ⟨.ok, none, some [0, 1, 0, 0]⟩ := by decide +kernel

/-- 11, a crew clearing: source CREW, code 14, reporter S; without an ACTIVE manifest NOT_FOUND (R149). -/
theorem test_bikeClear :
    (after (.bikeClear (long .service) 1 20101) (withManifest .active)).faults.queue.map
        (fun r => (r.source, r.code, r.reporter)) = [(.crew, 14, some serialS)]
      ∧ reply .service (after (.bikeClear (long .service) 1 20101) base) = some ⟨.notFound, none, none⟩ := by decide +kernel

/-- R150: a JAMMED dock enters VERIFY, and the reply carries custody code 0. -/
theorem test_dockReset :
    let t := after (.dockReset (on .service) 1 0) (base.updDock 0 fun k => { k with custody := .jammed })
    (t.dock 0).custody = .verify ∧ reply .service t = some ⟨.ok, none, some [0]⟩ := by decide +kernel

/-- R53, R54: a new entry puts its dock in VERIFY; an address in use is DUPLICATE; an occupied dock is DOCK_BUSY. -/
theorem test_mapPut :
    let t (d a : Byte) : State := after (.mapPut (long .service) d 1 a) base
    ((t 64 120).dock 63).custody = .verify ∧ (t 64 120).map.get 63 = some 120
      ∧ reply .service (t 64 3) = some ⟨.duplicate, none, none⟩ ∧ reply .service (t 1 120) = some ⟨.dockBusy, none, none⟩
      ∧ reply .service (t 64 121) = some ⟨.badRequest, none, none⟩ := by decide +kernel

/-- 9, a station set after a restart: at uptime 500 and clock 90,000,000, uptime 0 becomes 89,999,500. -/
theorem test_clockSet :
    let s := { (base.updDock 0 fun k => { k with since := some (.uptime 0) }) with clock := none, uptime := 500 }
    let t := after (.clockSet (long .backhaul) 90000000) s
    (t.dock 0).since = some (.clock 89999500) ∧ t.clock = some 90000000
      ∧ reply .backhaul t = some ⟨.ok, none, some [0, 0, 0, 0, 0, 0x80, 0x4A, 0x5D, 0x05, 0xF4, 0x01, 0, 0]⟩ := by decide +kernel

/-- R180, R190: 57 bytes of settings, then clock, uptime, commissioned, and the start record COLD, POWER. -/
theorem test_stationSetRead :
    let c := (reply .backhaul (after (.stationSetRead (long .backhaul)) base)).bind Answer.content
    c.map (List.take 8) = some [0x9C, 0x01, 0, 0, 20, 0, 0, 0]
      ∧ c.map (List.drop 57) = some [1, 0x80, 0x8D, 0x5B, 0, 0x88, 0x13, 0, 0, 1, 0, 0] := by decide +kernel

/-- 9, a write that is clamped: a sweep period of 2 becomes 5, a drop threshold of 40 becomes 32; 60 stands. -/
theorem test_stationSetWrite :
    let t := after (.stationSetWrite (long .backhaul)
      ⟨412, 20, 120, 60, 0, 120, 2, 20, 2, 40, 30, 30, 600, 0, 1, 0, 0, 0⟩) base
    (t.settings.sweepPeriod, t.settings.dropThreshold, t.settings.retractWindow) = (5, 32, 60)
      ∧ (reply .backhaul t).map Answer.status = some .clamped := by decide +kernel

/-- R185: the restart is pending with its kind, tag and time. -/
theorem test_stationRestart :
    (after (.stationRestart (on .backhaul) 1 0) base).restart = some ⟨.cold, 1, 5000⟩ := by decide +kernel

/-- R165: TARIFFS has 8 entries, so index 8 is refused. -/
theorem test_cursorSet :
    ((after (.cursorSet (on .kiosk) 7 2 1 0) base).port .kiosk).cursor = ⟨.tariffs, 7, .onReadAndWrite⟩
      ∧ reply .kiosk (after (.cursorSet (on .kiosk) 8 2 1 0) base) = some ⟨.badRequest, none, none⟩ := by decide +kernel

/-- R166, 10.5: the readout of dock 1 behind its index, and the cursor steps. -/
theorem test_cursorRead :
    let t := after (.cursorRead (on .kiosk) 0) (base.updPort .kiosk fun q => { q with cursor := ⟨.docks, 0, .onReadAndWrite⟩ })
    reply .kiosk t = some ⟨.ok, none, some [0, 0, 1, 0x19, 2, 1, 0x85, 0x4E, 0, 0x50, 0x18, 0x5B, 0, 0, 0xFF, 0xFF, 0, 0xFF, 0]⟩
      ∧ (t.port .kiosk).cursor.index = 1 := by decide +kernel

/-- R167: a tariff record written at the cursor's plan. -/
theorem test_cursorWrite :
    (after (.cursorWrite (long .backhaul) (.tariff tariffIn))
      (base.updPort .backhaul fun q => { q with cursor := ⟨.tariffs, 7, .none⟩ })).tariffs.get 7 = ⟨30, 30, 120, 1000, 1, 200, 50⟩ := by
  decide +kernel

/-- R171: CLOCK_UNSET from the start, no dock, all masks, no errors, tag 1 in use. -/
theorem test_noticeRead :
    (reply .kiosk (after (.noticeRead (on .kiosk) 0) base)).bind Answer.content = some
      ([0x80, 0] ++ List.replicate 8 0 ++ [0xFF, 0x03] ++ List.replicate 8 0xFF ++ [0, 0, 2]) := by decide +kernel

/-- R170: masks of flags and docks; bit 10 is refused. -/
theorem test_noticeMask :
    let t := after (.noticeMask (long .kiosk) 0x0FF 5) base
    ((t.port .kiosk).masks, (t.port .kiosk).dockMasks) = (0x0FF, 5)
      ∧ reply .kiosk (after (.noticeMask (long .kiosk) 0x400 5) base) = some ⟨.badRequest, none, none⟩ := by decide +kernel

/-- R172, 8 "following docks": JOURNAL_HIGH is set again while its condition holds; CLOCK_UNSET is cleared. -/
theorem test_noticeClear :
    let s := ({ base with journal := { base.journal with reserved := 192 } } : State).updPort .backhaul fun q => { q with flags := 0x082 }
    ((after (.noticeClear (long .backhaul) 0x082 0 0) s).port .backhaul).flags = 0x002 := by decide +kernel

/-- R154: an IDLE frame draws nothing and takes no tag. -/
theorem test_idleFrame :
    (after (.idleFrame (on .kiosk) 0) base).port .kiosk = { base.port .kiosk with selected := true } := by decide +kernel

/-- R159 step 6: kind 14 is refused BAD_REQUEST. -/
theorem test_unassignedKindFrame :
    reply .kiosk (after (.unassignedKindFrame (long .kiosk) 14 0 []) base) = some ⟨.badRequest, none, none⟩ := by decide +kernel

/-- 8, the first burst: the fifth header counts HEADER_ERROR, sets LINK_ERROR and ends the reading of the select. -/
theorem test_headerError :
    let q := (after (.headerError .kiosk (headerOf 1 5 3 ^^^ 0x300) 0x0D) base).port .kiosk
    (q.headerErrors, q.discarding, q.flags) = (1, true, 0x180) := by decide +kernel

/-- R158: a cut request sets LINK_ERROR, and a cut IDLE frame does not. -/
theorem test_selectReleased :
    ((after (.selectReleased .kiosk [0x45]) base).port .kiosk).flags = 0x180
      ∧ ((after (.selectReleased .kiosk [0x40]) base).port .kiosk).flags = 0x080 := by decide +kernel

/-- R161: the reply leaves the queue and its tag is free; its bytes are those of a STATUS frame (R154, R191). -/
theorem test_replyClockedOut :
    let q := (after (.replyClockedOut .kiosk) (base.updPort .kiosk fun q =>
      { q with tags := 2, queue := [⟨1, ⟨.notAvailable, some .jammed, none⟩⟩] })).port .kiosk
    q.tags = 0 ∧ q.queue = [] ∧ q.lastOut.take 3 = [0x41, 12, 4] := by decide +kernel

/-- R153, R154: with an empty queue the port sends IDLE, an all-zero short frame, as in the burst's select of chapter 8. -/
theorem test_idleFrame_sent :
    ((after (.replyClockedOut .kiosk) base).port .kiosk).lastOut = [0, 0, 0, 0] := by decide +kernel

/-- R18 by R19: a QUERY that finds no bike at a DOCKED dock reports code 15 and leaves the dock EMPTY. -/
theorem test_query :
    let t := after (.query noBike false) (asked 0 .query .sweep base)
    (t.dock 0).custody = .empty ∧ (t.dock 0).bike = none
      ∧ t.faults.queue.map (fun r => (r.source, r.code, r.bike)) = [(.lock, 15, some 20101)] := by decide +kernel

/-- R5: at VERIFY, an unlatched bike of the same number is locked; a latched one is DOCKED with its docked since.  R19: at a
sweep reply of a stale dock with a stamp the clear comes before the LOCK, as in the table; R5: at VERIFY's own it follows. -/
theorem test_query_verify :
    let t (f : Byte) : State := after (.query { block 20101 none with flags := f } false) (asked 0 .query .custody verifying)
    let u (o : Origin) : State := after (.query { block 20101 (some (tagStamp 77 5996600)) with flags := 0x0D } false)
      (asked 0 .query o (verifying.updDock 0 fun k => { k with stale := true }))
    (((t 7).dock 0).custody = .docked ∧ ((t 7).dock 0).since = some (.clock 5970000)
      ∧ ((t 5).dock 0).custody = .verify ∧ ((t 5).waiting 0) = [.lock])
      ∧ (u .sweep).waiting 0 = [.clear, .lock] ∧ (u .custody).waiting 0 = [.lock, .clear] := by decide +kernel

/-- 11: UNLOCK OK opens the release for 20 s and answers the kiosk with the dock and trip serial 88,140. -/
theorem test_unlock :
    let t := after (.unlock .ok false) (asked 0 (.unlock 20) .custody (releasing rental .unlocking none))
    (t.dock 0).release.map (fun r => (r.phase, r.deadline)) = some (.opened, some 5020)
      ∧ reply .kiosk t = some ⟨.ok, none, some [1, 0x4C, 0x58, 0x01, 0]⟩ := by decide +kernel

/-- R10: LOCK_FAIL withdraws the grant as JAMMED. -/
theorem test_unlock_fails :
    let t := after (.unlock .lockFail false) (asked 0 (.unlock 20) .custody (releasing rental .unlocking none))
    (t.dock 0).custody = .jammed ∧ t.journal.reserved = 0 ∧ reply .kiosk t = some ⟨.notAvailable, some .jammed, none⟩
      ∧ t.faults.queue.map FaultRecord.code = [11] := by decide +kernel

/-- R16, 11 "R, dock 2": D 3,400 makes a net of 120; the END is admitted, and the card pays. -/
theorem test_lock :
    let t := after (.lock .locked false) (asked 0 .lock .custody
      (arriving (some ⟨20101, none, some (stampOfWords (tagStamp 77 5996600))⟩)))
    (t.dock 0).custody = .docked ∧ (t.dock 0).since = some (.clock 6000000) ∧ t.cards.head?.map Card.body = some (.member 1000 1 2280 (some 120))
      ∧ t.journal.records.map (fun r => (r.number, r.body)) =
        [(3255, .ended (stampOfWords (tagStamp 77 5996600)) 3400 120 0 120 120)] := by decide +kernel

/-- R85: 30 s after a grant at this station, the ride is taken back free. -/
theorem test_lock_retracts :
    (after (.lock .locked false) (asked 0 .lock .custody
      (arriving (some ⟨20101, none, some (stampOfWords (tagStamp 412 5999970))⟩)))).journal.records.map JournalRecord.body =
        [.retract serialA 77 30] := by decide +kernel

/-- R9: OK leads to UNLOCK; TAG_ABSENT withdraws the grant as TAG_FAIL and reports code 12. -/
theorem test_writeTagStamp :
    let t (st : PostStatus) : State := after (.writeTagStamp st false) (asked 0 (.stamp stampA) .custody (releasing rental .stamping none))
    ((t .ok).dock 0).release.map Release.phase = some .unlocking ∧ (t .ok).waiting 0 = [.unlock 20]
      ∧ reply .kiosk (t .tagAbsent) = some ⟨.tagFail, none, none⟩ ∧ (t .tagAbsent).faults.queue.map FaultRecord.code = [12] := by
  decide +kernel

/-- R20: OK ends the stale tag; a failure makes it stale. -/
theorem test_writeTagClear :
    let t (b : Bool) (st : PostStatus) : State := after (.writeTagClear st false)
      (asked 0 .clear .custody (base.updDock 0 fun k => { k with stale := b }))
    ((t true .ok).dock 0).stale = false ∧ ((t false .tagWriteFail).dock 0).stale = true
      ∧ ((t false .tagWriteFail).dock 0).mark = some 12 := by decide +kernel

/-- R22: a failed mark write changes nothing but the line. -/
theorem test_writeTagMark :
    let t := after (.writeTagMark .tagWriteFail false) (asked 0 (.mark 3) .custody (base.updDock 0 fun k => { k with mark := some 3 }))
    (t.dock 0).mark = some 3 ∧ t.faults.queue = [] ∧ (t.dock 0).stale = false := by decide +kernel

theorem test_writeTagClearMark :
    let t := after (.writeTagClearMark .ok false) (asked 0 .clearMark .custody base)
    (t.dock 0).mark = none ∧ (t.lane 0).failures = 0 := by decide +kernel

/-- R45: a good reply sets the consecutive-failure count to 0. -/
theorem test_showReply :
    ((after (.showReply .ok false) (asked 0 (.display .green) .display (base.updLane 0 fun y => { y with failures := 2 }))).lane 0).failures = 0 := by
  decide +kernel

/-- R48: the first good PROBE reply brings the dock ONLINE into VERIFY with its QUERY. -/
theorem test_probe :
    let t := after (.probe .ok false) (asked 0 .probe .probe lost)
    (t.dock 0).link = .online ∧ (t.dock 0).custody = .verify ∧ t.waiting 0 = [.query] ∧ (t.lane 0).probeAt = none := by
  decide +kernel

/-- 2, a post dropped: the first bad try counts an error, opens the window for 30 s and is tried again. -/
theorem test_replyTimeout :
    let t := after (.replyTimeout false) (asked 0 .query .sweep base)
    ((t.lane 0).errors, (t.lane 0).window, (t.lane 0).windowEnd) = (1, 1, some 5030)
      ∧ t.line.inFlight.map Exchange.tries = some 2 := by decide +kernel

/-- 2, a post dropped: the sixth error in the window drops the dock at once, with record code 10 and a probe in 30 s. -/
theorem test_replyTimeout_drops :
    let t := after (.replyTimeout false) (asked 0 .query .sweep (base.updLane 0 fun y => { y with errors := 5, window := 5, windowEnd := some 5030 }))
    (t.dock 0).link = .lost ∧ (t.dock 0).custody = .docked ∧ ((t.lane 0).errors, (t.lane 0).window, (t.lane 0).failures) = (6, 0, 0)
      ∧ (t.lane 0).probeAt = some 5030 ∧ t.faults.queue.map FaultRecord.code = [10] := by decide +kernel

/-- R34, R35: a reply of another kind is a bad try. -/
theorem test_badReply :
    ((after (.badReply (lineFrame true 1 3 [1]) false) (asked 0 .query .sweep base)).lane 0).errors = 1 := by decide +kernel

/-- 2, turns on the line: the free line goes to a call round. -/
theorem test_callWireAsserted :
    let t := after .callWireAsserted { base with line := { base.line with pointer := 10 } }
    t.line.arbiter = .round none ∧ t.line.rounds = 1 ∧ t.line.sent = lineFrame true 0 0x10 [10] := by decide +kernel

/-- 2, turns on the line: from pointer 10 rank 2 is post 12, and from 31 rank 93 is post 4. -/
theorem test_callRoundArbitration :
    let t (p : Nat) (r : BitVec 7) : State := after (.callRoundArbitration r false) { base with line := { base.line with pointer := p, arbiter := .round none } }
    ((t 10 2).line.arbiter, (t 10 2).line.pointer) = (.round (some 12), 13)
      ∧ ((t 31 93).line.arbiter, (t 31 93).line.pointer) = (.round (some 4), 5) := by decide +kernel

/-- 3, one rider: a tap at dock 1 is granted, and the stamp is the first command. -/
theorem test_tap :
    let t := after (.tap news serialA) (called 0 base)
    (t.dock 0).custody = .releasing ∧ t.tripSerial = 88141 ∧ t.journal.reserved = 1 := by decide +kernel

/-- R74: a refused tap is a flash of 3 s. -/
theorem test_tap_refused : ((after (.tap news 77) (called 0 base)).dock 0).flash = some 5003 := by decide +kernel

/-- R15: the dock is ARRIVING with the number read and its LOCK. -/
theorem test_insert :
    let t := after (.insert news (block 20900 none)) (called 1 base)
    (t.dock 1).custody = .arriving ∧ (t.dock 1).bike = some 20900 ∧ t.waiting 1 = [.lock] := by decide +kernel

/-- 11: REMOVED at an OPEN release makes the START record and raises trips out. -/
theorem test_removed :
    let t := after (.removed news) (called 0 (releasing rental .opened (some 5020)))
    (t.dock 0).custody = .empty ∧ t.cards.map Card.trips = [1, 0, 0]
      ∧ t.journal.records.map (fun r => (r.number, r.body, r.flags.late)) = [(3255, .start serialA false 1 88140, false)] := by
  decide +kernel

/-- 7, a rider's report: 70 s after the return the record names the rider, 120 s after it does not. -/
theorem test_faultKey :
    let t (since : Nat) : State := after (.faultKey news 4) (called 0 (base.updDock 0 fun k => { k with lastReturn := some ⟨serialA, .clock since⟩ }))
    (t 5999930).faults.queue.map (fun r => (r.code, r.source, r.reporter)) = [(4, .postKey, some serialA)]
      ∧ ((t 5999930).dock 0).mark = some 4 ∧ (t 5999880).faults.queue.map FaultRecord.reporter = [none] := by decide +kernel

/-- R23. -/
theorem test_jam :
    let t := after (.jam news) (called 0 base)
    (t.dock 0).custody = .jammed ∧ (t.dock 0).mark = some 11 ∧ t.faults.queue.map FaultRecord.code = [11] := by decide +kernel

/-- R39: an error for the winner's dock, and no acknowledgement. -/
theorem test_badNewsFrame :
    let t := after (.badNewsFrame [] false) (called 0 base)
    (t.lane 0).errors = 1 ∧ t.line.ack = [] := by decide +kernel

/-- R122: a bad frame that drops a dock whose UNLOCK of a van release is pending freezes the release, keeps its hold, and gives
the waiting request the outcome LOST (code 3). -/
theorem test_badNewsFrame_drops :
    let s := (withManifest .active).updDock 0 fun k =>
      { k with custody := .releasing, release := some (release (.van 0 0 false) .unlocking none true) }
    let t := after (.badNewsFrame [] false) (called 0 (({ s with
      journal := ⟨[], 3255, 1⟩, vanWaits := [{ tag := 1, entries := [⟨0, none⟩] }] } : State).updLane 0 fun y =>
      { y with window := 5, slot := some ⟨.unlock 60, .custody⟩ }))
    ((t.dock 0).link = .lost ∧ (t.dock 0).custody = .releasing ∧ (t.dock 0).hold = some ⟨0, 0⟩ ∧ (t.lane 0).slot = none)
      ∧ t.journal.reserved = 1 ∧ (reply .service t).bind Answer.content = some [1, 1, 3] := by decide +kernel

/-- R39, R46: at the drop threshold the dock is LOST; a rental's UNLOCK pending in its slot comes back as LINE_FAIL first. -/
theorem test_newsTimeout_drops :
    let t := after (.newsTimeout false) (called 0 ((releasing rental .unlocking none).updLane 0 fun y =>
      { y with window := 5, slot := some ⟨.unlock 20, .custody⟩ }))
    (t.dock 0).link = .lost ∧ (t.dock 0).custody = .docked ∧ reply .kiosk t = some ⟨.lineFail, none, none⟩ := by decide +kernel

theorem test_newsTimeout : ((after (.newsTimeout false) (called 0 base)).lane 0).window = 1 := by decide +kernel

/-- R12: at the deadline the dock is relocked, and before it is not. -/
theorem test_releaseDeadline :
    let t (u : Nat) : State := after (.releaseDeadline 0) (releasing rental .opened (some u))
    ((t 5000).dock 0).release.map Release.phase = some .relocking ∧ (t 5000).waiting 0 = [.lock]
      ∧ ((t 5001).dock 0).release.map Release.phase = some .opened := by decide +kernel

/-- R28. -/
theorem test_flashDeadline :
    let t (u : Nat) : State := after (.flashDeadline 0) (base.updDock 0 fun k => { k with flash := some u })
    ((t 5000).dock 0).flash = none ∧ ((t 5001).dock 0).flash = some 5001 := by decide +kernel

/-- R44. -/
theorem test_dropWindowEnd :
    ((after (.dropWindowEnd 0) (base.updLane 0 fun y => { y with window := 5, windowEnd := some 5000 })).lane 0).window = 0 := by
  decide +kernel

/-- R47: the probe goes out with one try. -/
theorem test_probeTimer :
    (after (.probeTimer 0) lost).line.inFlight.map (fun x => (x.dock, x.cmd, x.origin, x.tries)) = some (0, .probe, .probe, 1) := by
  decide +kernel

/-- R49, R50: the walk asks dock 1 first, then stands at 2; the timer restarts with 10 s. -/
theorem test_sweepTimer :
    let t := after .sweepTimer (base.updDock 0 fun k => { k with lastPattern := some .green })
    t.line.sweepAt = some 2 ∧ t.line.sweepDue = 5010 := by decide +kernel

/-- R128: the idle manifest closes with reason IDLE. -/
theorem test_idleDeadline :
    (after (.idleDeadline 0) { withManifest .active with uptime := 5600 }).journal.records.map JournalRecord.body =
      [.vanClose 915 .idle [⟨.load, 1, 1, 0, 0⟩]] := by decide +kernel

/-- R127: at its staged-until, 6,007,680, the manifest closes as EXPIRED, and a second before it stands. -/
theorem test_stagedExpiry :
    let t (c : Nat) : State := after (.stagedExpiry 0) { withManifest .staged with clock := some c }
    (t 6007680).manifests.get 0 = none ∧ ((t 6007679).manifests.get 0).map Manifest.state = some .staged := by decide +kernel

/-- R69: an expired guest with no trip out is removed, and one with a trip out stays. -/
theorem test_guestExpiry :
    let t (n : Nat) : State := after (.guestExpiry serialG) { base with clock := some 6000900, cards := [{ cardG with trips := n }] }
    (t 0).cards = [] ∧ (t 1).cards.length = 1 := by decide +kernel

/-- R185: 2 s after the request a cold restart empties the card table, and 1 s after it has not started. -/
theorem test_restartDue :
    let t (u : Nat) : State := after .restartDue { base with restart := some ⟨.cold, 1, u⟩ }
    (t 4998).started = ⟨.cold, .restart⟩ ∧ (t 4998).cards = [] ∧ (t 4999).cards.length = 3 := by decide +kernel

/-- R183: power fails in a moment, and the clock runs on in RETAIN while the uptime stands. -/
theorem test_mainPowerFail :
    let t := after .mainPowerFail base
    t.mode = .retain ∧ (t.clock, t.uptime) = (some 6000000, 5000) ∧ (t.tick.clock, t.tick.uptime) = (some 6000001, 5000) := by
  decide +kernel

/-- R187: a warm start verifies every mapped dock, with cause POWER and uptime 0; R30, R182: a verify context keeps no
deadline through it. -/
theorem test_mainPowerReturn :
    let t := after .mainPowerReturn { base with mode := .retain }
    let s := base.updDock 0 fun k =>
      { k with custody := .verify, verifyCtx := some { release rental .opened (some 5020) false with stopped := some 5000 } }
    (t.mode = .run ∧ t.started = ⟨.warm, .power⟩ ∧ t.uptime = 0 ∧ (t.dock 0).custody = .verify ∧ (t.dock 0).bike = some 20101)
      ∧ ((after .mainPowerReturn { s with mode := .retain }).dock 0).verifyCtx = some (release rental .opened none false) := by
  decide +kernel

/-- R174: what remains of a select in progress at a start is discarded, on the kiosk port after a frame and on the service
port before its first frame, and the next select is read; the backhaul port, not selected, reads on. -/
theorem test_select_at_start :
    let t := after .mainPowerReturn
      (after (.idleFrame (on .kiosk) 0) { base with mode := .retain, startSelects := [⟨false, false, true⟩] })
    (t.port .kiosk).discarding = true ∧ after (.noticeRead (on .kiosk) 0) t = t
      ∧ after (.noticeRead (on .service) 0) t = t ∧ (t.port .backhaul).discarding = false ∧ t.startSelects = []
      ∧ ((after (.selectReleased .service []) t).port .service).discarding = false := by decide +kernel

/-- R182, R186: after the battery has failed the start is cold. -/
theorem test_batteryFail :
    let t := after .mainPowerReturn (after .batteryFail { base with mode := .retain })
    t.started = ⟨.cold, .power⟩ ∧ t.clock = none ∧ t.map.get 0 = none := by decide +kernel

/-- R184: RESET holds the part, and its release starts it warm with cause RESET. -/
theorem test_reset : (after .resetAsserted base).mode = .held
    ∧ (after .resetReleased (after .resetAsserted base)).started = ⟨.warm, .reset⟩ := by decide +kernel

/-- 9, a station set after a restart: at a warm start without a clock every uptime becomes 0. -/
theorem test_resetReleased_times :
    ((after .resetReleased { base.updDock 0 (fun k => { k with since := some (.uptime 400) }) with clock := none, mode := .held }).dock 0).since
      = some (.uptime 0) := by decide +kernel

/-- A step takes the command at the front, and a second passes when none waits (R175). -/
theorem test_step : Machine.step { base with pending := [.mainPowerFail, .probeTimer 0] } = exec .mainPowerFail { base with pending := [.probeTimer 0] }
    ∧ Machine.step base = .next { base with clock := some 6000001, uptime := 5001 } := ⟨rfl, rfl⟩

/-! ## Witnesses

For each statement with hypotheses, a state and operands that meet them together; where its clauses divide a range, one for
each clause at the ends of its range. -/

/-- A long frame whose checksum field is 0000h is got by a port that requires none, whatever its request. -/
theorem gets_long {s : State} (p : PortId) (i : Instr) (h : s.hears (on p)) (hs : sumRequired s.settings p = false) :
    s.gets (long p) i := ⟨h, rfl, .inr ⟨rfl, hs⟩⟩

theorem base_gets (p : PortId) (i : Instr) : base.gets (long p) i :=
  gets_long p i (by cases p <;> decide +kernel) (by cases p <;> rfl)

/-- The station without main power, and with RESET held. -/
def retained : State := { base with mode := .retain }
def resetHeld : State := { base with mode := .held, resetLow := true }
def waitsToStart : State := { base with mode := .startWaits }

theorem witness_IdleStepIsOneSecond : base.pending = [] ∧ base.mode = .run ∧ retained.mode = .retain := by decide +kernel

theorem witness_StoppedPartKeepsItsState : retained.mode ≠ .run ∧ resetHeld.mode = .held ∧ waitsToStart.mode = .startWaits
    ∧ base.mode = .run ∧ Instr.sweepTimer ≠ .mainPowerFail ∧ Instr.sweepTimer ≠ .resetReleased
    ∧ linkPort .sweepTimer = none ∧ linkPort (.cardDrop (long .backhaul) 0) = some .backhaul
    ∧ linkPort (.replyClockedOut .service) = some .service := by decide +kernel

theorem witness_ColdStartAndTheStartThatWaits :
    let c := { retained with marker := false }
    (c.mode = .retain ∧ c.resetLow = false ∧ c.marker = false) ∧ ({ c with resetLow := true } : State).resetLow = true
      ∧ ({ waitsToStart with marker := false } : State).marker = false := by decide +kernel

theorem witness_WarmStartVerifiesTheDocks : (retained.mode = .retain ∧ retained.resetLow = false ∧ retained.marker = true)
    ∧ resetHeld.mode = .held ∧ waitsToStart.mode = .startWaits ∧ waitsToStart.marker = true := by decide +kernel

/-- Asked for at uptime 4,998 the restart is due at 5,000, and at 4,999 it is not. -/
def restarting (k : StartKind) (taken : Nat) : State :=
  { base with restart := some ⟨k, 1, taken⟩ }.updPort .backhaul fun q => { q with tags := 2, queue := [⟨1, ⟨.ok, none, none⟩⟩] }

theorem witness_RestartIsPendingUntilDue :
    (base.hears (on .backhaul) ∧ (on .backhaul).port = .backhaul ∧ (0#8).toNat ≤ 1 ∧ (1#8).toNat ≤ 1)
      ∧ ((restarting .cold 4998).restart = some ⟨.cold, 1, 4998⟩ ∧ 4998 + 2 ≤ (restarting .cold 4998).uptime)
      ∧ (restarting .warm 4999).uptime < 4999 + 2
      ∧ ((restarting .warm 4999).port .backhaul).queue = [⟨1, ⟨.ok, none, none⟩⟩] ∧ base.restart = none := by decide +kernel

theorem witness_RequestStepsBeforeTheBlock :
    (∃ r, requestOf (.cardDrop { long .backhaul with sum := 1 } serialA) = some r
        ∧ (Instr.cardDrop { long .backhaul with sum := 1 } serialA).wellFormed = true ∧ base.hears r.link ∧ ¬ r.sumGood base)
      ∧ (∃ r, requestOf (.faultRead (on .backhaul) 1) = some r ∧ base.hears r.link ∧ r.sumGood base ∧ r.form = false)
      ∧ (∃ r, requestOf (.cardDrop (long .kiosk) serialA) = some r ∧ base.hears r.link ∧ r.sumGood base ∧ r.form = true
        ∧ permitted r.kind r.link.port = false)
      ∧ ((base.updPort .kiosk fun q => { q with discarding := true }).port .kiosk).discarding = true
      ∧ ((base.updPort .kiosk fun q => { q with tags := 2 }).port .kiosk).tags.getLsbD (on .kiosk).tag.toNat = true := by
  refine ⟨⟨_, rfl, ?_⟩, ⟨_, rfl, ?_⟩, ⟨_, rfl, ?_⟩, ?_⟩ <;> decide +kernel

theorem witness_FramesThatReachNoBlock :
    (base.mode = .run ∧ (base.port .kiosk).discarding = false)
      ∧ ((Instr.unassignedKindFrame (long .kiosk) 31 9 []).wellFormed = true ∧ base.hears (long .kiosk).link)
      ∧ ((Instr.unassignedKindFrame { long .kiosk with sum := checksum [1] } 57 0 [1]).wellFormed = true ∧ 32 ≤ (57#6).toNat)
      ∧ (Instr.headerError .kiosk (headerOf 1 38 513) (checkByte (headerOf 1 38 513))).wellFormed = true
      ∧ ((base.updPort .kiosk fun q => { q with discarding := true }).port .kiosk).discarding = true := by decide +kernel

theorem witness_SelectReleasedDropsACutFrame :
    (∀ cut ∈ ([[], [0x40], [0x45, 3, 0], [0x45, 3]] : List (List Byte)), (Instr.selectReleased .kiosk cut).wellFormed = true)
      ∧ (base.mode = .run ∧ (base.port .kiosk).discarding = false)
      ∧ (let cut : List Byte := [0x65, 7, 0, checkByte (headerOf 1 37 7)]
        (Instr.selectReleased .kiosk cut).wellFormed = true ∧ 4 ≤ cut.length
          ∧ checkHeader (BitVec.ofNat 24 (ofLeBytes (cut.take 3))) (cut.getD 3 0) = .stands (headerOf 1 37 7) false) := by
  decide +kernel

theorem witness_ReplyClockedOutFreesItsTag :
    (base.mode = .run ∧ (base.port .kiosk).queue = [])
      ∧ ((restarting .warm 4999).port .backhaul).queue = [⟨1, ⟨.ok, none, none⟩⟩]
      ∧ ∀ r, ({ restarting .warm 4999 with restart := some ⟨.warm, 2, 4999⟩ } : State).restart = some r →
        ¬ (PortId.backhaul = .backhaul ∧ (1 : BitVec 2) = r.tag) := by
  refine ⟨by decide +kernel, by decide +kernel, fun r h => ?_⟩
  cases h
  decide

theorem witness_NoticeReadReportsThePort : base.hears (on .service) := by decide +kernel

theorem witness_NoticeMaskAndClear : (∀ p i, base.gets (long p) i) ∧ (0x3FF#16).toNat < 1024 ∧ (0#8).toNat ≤ 1
    ∧ (1#8).toNat ≤ 1 := ⟨base_gets, by decide⟩

theorem witness_CursorSetAndRead :
    base.hears (on .kiosk) ∧ ((0#3) = 0 ∧ (2#2).toNat ≤ 2 ∧ (511#9).toNat < 512) ∧ ¬ (8#9).toNat < 8
      ∧ (base.port .kiosk).cursor = ⟨.docks, 0, .none⟩ := by decide +kernel

theorem witness_CardTableAndNumbers :
    base.cards.Pairwise (fun a b => a.serial.toNat < b.serial.toNat) ∧ [65535, 1].length < 65535 ∧ 65535 ≤ 65535
      ∧ firstFree (fun x => [65535, 1].contains x) 3 65535 = 2 := by decide +kernel

/-- The card table with 512 entries and no GUEST serial A among them. -/
def fullCards : State := { base with cards := (List.range 512).map fun n => { cardS with serial := BitVec.ofNat 56 n } }

def put (n : Serial) (kind plan : Byte) : CardPut := ⟨n, kind, 500, plan, 0, 0, 1, 7⟩

theorem witness_CardPutCreatesOrUpdates :
    (∀ i, base.gets (long .backhaul) i ∧ fullCards.gets (long .backhaul) i)
      ∧ (∀ r ∈ [put 9 0 7, put 9 2 0, put 9 1 0, put 9 0 8, put serialG 0 0, put serialA 0 7, put serialS 2 9, put serialS 0 0],
        cardStatusOf r.status = some .active ∧ r.expiryPresent.toNat ≤ 1 ∧ r.kind.toNat ≤ 2 ∧ r.member ≠ 0)
      ∧ (findCard base 9 = none ∧ base.cards.length < 512)
      ∧ (findCard base serialG = some cardG ∧ cardG.isGuest = true)
      ∧ (findCard base serialA = some cardA ∧ cardA.isGuest = false) ∧ findCard base serialS = some cardS
      ∧ findCard fullCards serialA = none ∧ 512 ≤ fullCards.cards.length :=
  ⟨fun i => ⟨base_gets _ i, gets_long _ i (by decide +kernel) rfl⟩, by decide +kernel⟩

theorem witness_CardCreditAddsItsDelta :
    (∀ p i, base.gets (long p) i) ∧ findCard base serialA = some cardA ∧ findCard base serialG = some cardG
      ∧ findCard base serialS = some cardS ∧ findCard base 9 = none := ⟨base_gets, by decide +kernel⟩

theorem witness_CardFieldsAreSetAndRead :
    (∀ p i, base.gets (long p) i) ∧ (base.hears (on .kiosk) ∧ PortId.kiosk ≠ .service) ∧ cardStatusOf 2 = some .denied
      ∧ findCard base serialA = some cardA ∧ findCard base serialG = some cardG ∧ findCard base 9 = none :=
  ⟨base_gets, by decide +kernel⟩

theorem witness_CardDropRemovesTheEntry :
    (∀ p i, base.gets (long p) i) ∧ (findCard base serialA).isSome = true ∧ findCard base 9 = none :=
  ⟨base_gets, by decide +kernel⟩

theorem witness_GuestPassIsIssuedAndExpires :
    (∀ i, base.gets (long .kiosk) i ∧ ({ base with clock := none } : State).gets (long .kiosk) i
        ∧ fullCards.gets (long .kiosk) i)
      ∧ (8 ≤ (8#8).toNat ∧ (7#8).toNat = (7 : Fin 8).val ∧ (0#16).toNat = 0 ∧ 1440 < (1441#16).toNat ∧ (1440#16).toNat ≤ 1440)
      ∧ (base.clock = some 6000000 ∧ findCard base 9 = none ∧ base.cards.length < 512 ∧ (findCard base serialG).isSome = true)
      ∧ findCard fullCards serialA = none
      ∧ (cardG.isGuest = true ∧ cardG.trips = 0 ∧ cardExpired { base with clock := some 6000900 } cardG = true)
      ∧ ¬ cardExpired base cardG = true :=
  ⟨fun i => ⟨base_gets _ i, gets_long _ i (by decide +kernel) rfl, gets_long _ i (by decide +kernel) rfl⟩, by decide +kernel⟩

theorem witness_RentalIsGrantedToACardThatMayRide :
    (∀ p i, base.gets (long p) i) ∧ (FirstAvailable base 2 ∧ Available (base.dock 2) ∧ Available (base.dock 0))
      ∧ MayRide base serialA cardA 1 ∧ base.clock = some 6000000 ∧ RoomToReserve base := by
  refine ⟨base_gets, ⟨?_, by decide +kernel⟩,
    ⟨by decide +kernel, by decide +kernel, rfl, by decide +kernel, by decide +kernel, 2400, rfl, by decide +kernel, by decide⟩,
    by decide +kernel, by decide +kernel⟩
  unfold FirstAvailable
  decide +kernel

/-- The station with one card in place of the three. -/
def cardOnly (c : Card) : State := { base with cards := [c] }

theorem cardOnly_gets (c : Card) (p : PortId) (i : Instr) : (cardOnly c).gets (long p) i :=
  gets_long p i (base_gets p i).1 (by cases p <;> rfl)

theorem witness_RentalIsRefusedAtTheFirstCheckThatFails :
    (∀ i c, base.gets (long .kiosk) i ∧ (cardOnly c).gets (long .kiosk) i)
      ∧ (Commissioned base ∧ findCard base serialA = some cardA ∧ cardA.riding = some (1, 2400) ∧ findCard base 9 = none)
      ∧ (¬ Commissioned { base with clock := none } ∧ ¬ Commissioned { base with settings := Settings.cold })
      ∧ cardS.isStaff = true ∧ cardExpired base { cardA with expiry := some 6000000 } = true
      ∧ (base.tariffs.get 1).limit ≤ 1 + rentalsInProgress base serialA ∧ (199 : Int) < (base.tariffs.get 1).minFunds
      ∧ ({ cardG with body := .guest 1 0 0 none } : Card).riding = some (0, 0) :=
  ⟨fun i c => ⟨base_gets _ i, cardOnly_gets c _ i⟩, by decide +kernel⟩

theorem witness_RentalIsRefusedAtItsDock :
    MayRide base serialA cardA 1 ∧ FirstReason (base.dock 1) .empty ∧ FirstReason (base.dock 63) .unmapped
      ∧ FirstReason (lost.dock 0) .lost ∧ FirstReason (verifying.dock 0) .verify
      ∧ FirstReason ((base.updDock 0 fun k => { k with stale := true, mark := some 3 }).dock 0) .staleTag
      ∧ (∀ d, ¬ Available (State.reset.dock d)) ∧ Available (base.dock 0)
      ∧ ¬ RoomToReserve { base with journal := { base.journal with reserved := 192 } } :=
  ⟨witness_RentalIsGrantedToACardThatMayRide.2.2.1, by decide +kernel⟩

theorem witness_TariffWritesClampTheRecord :
    (∀ p i, base.gets (long p) i) ∧ (8 ≤ (8#8).toNat ∧ (7#8).toNat = (7 : Fin 8).val)
      ∧ (TariffInRange tariffIn ∧ ¬ TariffInRange { tariffIn with limit := 9 })
      ∧ (∀ w ∈ [CursorEntry.tariff tariffIn, .map 1 9, .other [1]], (Instr.cursorWrite (long .backhaul) w).wellFormed = true)
      ∧ (base.port .backhaul).cursor.table = .docks
      ∧ ∀ i ∈ [7, 8], ((base.updPort .backhaul fun q => { q with cursor := ⟨.tariffs, i, .none⟩ }).port .backhaul).cursor = ⟨.tariffs, i, .none⟩ :=
  ⟨base_gets, by decide +kernel⟩

theorem witness_RideChargeFollowsItsStages :
    plan2.Ranged ∧ plan5.Ranged ∧ (50 < 100 ∧ 0 ≤ 0 + 259200 ∧ 0 + 259200 < 259201) ∧ (0 < plan2.cap ∧ plan5.cap = 0)
      ∧ (rideCharge plan2 0 97200 false).capped = true ∧ (rideCharge plan2 0 1801 true).creditFlag = true := by decide +kernel

theorem witness_JournalIsReadTakenAndDrained :
    (∀ p i, ({ base with journal := journal3 } : State).gets (long p) i)
      ∧ (∀ r ∈ journal3.records, r.number ≠ 3251) ∧ (∃ r ∈ journal3.records, r.number = 3254)
      ∧ (∀ q ∈ journal3.records.take 1, q.number ≠ 3253) ∧ ({ base.journal with reserved := 256 } : Journal).hasRoom = false :=
  ⟨fun p i => gets_long p i (by cases p <;> decide +kernel) (by cases p <;> rfl), by decide +kernel⟩

/-- The station with one manifest in both slots. -/
def twoSlots : State := { base with manifests := Vector.replicate 2 (some (manifest .staged)) }

theorem witness_ManifestStageCreatesAStagedManifest :
    (∀ i, base.gets (long .backhaul) i ∧ ({ base with clock := none } : State).gets (long .backhaul) i ∧ twoSlots.gets (long .backhaul) i)
      ∧ (∀ v ∈ [4, 5, 240, 241], ∀ ls ∈ [[], [⟨0, 64⟩], [⟨0, 65⟩], [⟨0x81, 1⟩]],
        (Instr.manifestStage (long .backhaul) 730 (BitVec.ofNat 8 v) ls).wellFormed = true)
      ∧ (base.clock = some 6000000 ∧ base.manifests.get 0 = none)
      ∧ twoSlots.manifests.get 0 = some (manifest .staged) ∧ twoSlots.manifests.get 1 = some (manifest .staged)
      ∧ (manifest .staged).id = 915 :=
  ⟨fun i => ⟨base_gets _ i, gets_long _ i (by decide +kernel) rfl, gets_long _ i (by decide +kernel) rfl⟩, by decide +kernel⟩

/-- A well formed line list and its lines. -/
theorem witness_LinesAre : LinesAre [⟨0x80, 3⟩, ⟨0x02, 64⟩]
    [unloadLine, { loadLine with filter := .faulty, asked := 64, reserved := 0 }] := by
  refine ⟨rfl, by decide, by decide, fun i w l hw hl => ?_⟩
  match i with
  | 0 => cases hw; cases hl; decide
  | 1 => cases hw; cases hl; decide
  | n + 2 => simp at hw

theorem withManifest_gets (st : MState) (p : PortId) (i : Instr) : (withManifest st).gets (long p) i :=
  gets_long p i (by cases p <;> cases st <;> decide +kernel) (by cases p <;> rfl)

theorem witness_ManifestOpenClaimsOrCreates :
    (∀ st i, (withManifest st).gets (long .service) i) ∧ (∀ i, base.gets (long .service) i ∧ twoSlots.gets (long .service) i)
      ∧ (∀ ls ∈ [[], [⟨0x80, 3⟩], [⟨0, 65⟩]], lineCodesOk ls = true ∧ (Instr.manifestOpen (long .service) serialS 730 0 ls).wellFormed = true)
      ∧ (findCard base serialS = some cardS ∧ cardS.isStaff = true ∧ cardS.status = .active ∧ cardExpired base cardS = false)
      ∧ (findCard base serialA = some cardA ∧ cardA.isStaff = false)
      ∧ ∀ st ∈ [MState.staged, .active, .closing], (withManifest st).manifests.get 0 = some (manifest st) :=
  ⟨fun st i => withManifest_gets st _ i, fun i => ⟨base_gets _ i, gets_long _ i (by decide +kernel) rfl⟩, by decide +kernel⟩

theorem witness_ManifestReleaseGrantsHeldDocks :
    ((withManifest .active).hears (on .service) ∧ (withManifest .active).manifests.get 0 = some (manifest .active)
        ∧ (withManifest .active).manifests.get 1 = none ∧ ((withManifest .active).dock 0).hold = some ⟨0, 0⟩)
      ∧ ((1#8).toNat ≤ 4 ∧ (4#8).toNat ≤ 4 ∧ ¬ 1 ≤ (0#8).toNat ∧ ¬ (5#8).toNat ≤ 4)
      ∧ ((manifest .active).lines[0]?).map MLine.action = some .load ∧ (manifest .active).lines[1]? = none
      ∧ vanReleasesOpen (withManifest .active).docks < 4
      ∧ (4 ≤ vanReleasesOpen ((List.range 4).foldl (fun s n => s.updDock (Fin.ofNat 64 (n + 4)) fun k =>
          { k with custody := .releasing, release := some (release (.van 0 0 false) .opened none false) }) (withManifest .active)).docks)
      ∧ (withManifest .staged).hears (on .service) := by decide +kernel

theorem witness_ManifestEntersClosing :
    (∀ st ∈ [MState.staged, .active, .closing], (withManifest st).manifests.get 0 = some (manifest st)
        ∧ (withManifest st).hears (on .service) ∧ (withManifest st).hears (on .backhaul) ∧ (manifest st).id = (915#16).toNat)
      ∧ (manifest .closing).reason = some .done
      ∧ ((manifest .active).idleAt = some 5600 ∧ 5600 ≤ ({ withManifest .active with uptime := 5600 } : State).uptime)
      ∧ ((manifest .staged).stagedUntil = some 6007680 ∧ ({ withManifest .staged with clock := some 6007680 } : State).clock = some 6007680)
      ∧ (withManifest .staged).manifests.get 1 = none := by decide +kernel

theorem witness_ManifestQueryReadsTheSlots :
    (withManifest .active).hears (on .service) ∧ (withManifest .active).hears (on .kiosk)
      ∧ (withManifest .active).manifests.get 0 = some (manifest .active) ∧ (manifest .active).id = (915#16).toNat
      ∧ base.manifests.get 0 = none := by decide +kernel

theorem witness_VanReplyFollowsTheLastOutcome :
    let r : VanRequest := { tag := 1, entries := [⟨0, none⟩, ⟨4, none⟩] }
    let s := { base with vanWaits := [r] }
    s.vanWaits = [] ++ r :: [] ∧ (∃ e ∈ r.entries, e.dock = 0 ∧ e.outcome = none)
      ∧ (∃ e ∈ r.entries.map fun e => if e.dock = 0 ∧ e.outcome = none then { e with outcome := some .unlocked } else e, e.outcome = none)
      ∧ ∀ e ∈ ([⟨0, none⟩, ⟨4, some .jammed⟩] : List VanEntry).map fun e =>
          if e.dock = 0 ∧ e.outcome = none then { e with outcome := some VanOutcome.unlocked } else e, e.outcome ≠ none := by
  decide +kernel

theorem witness_StepEndServesLinesAndLamps :
    (let s := { base with manifests := base.manifests.set 0 (some { manifest .staged with lines := [{ unloadLine with asked := 64 }] }) };
      (conclude s s).manifests.get 0 = some { manifest .staged with lines := [{ unloadLine with asked := 64, reserved := 1 }] })
      ∧ ((conclude base base).dock 0).online = true
      ∧ dockChanged (base.dock 0) ((conclude base (base.updDock 0 fun k => { k with mark := some 3 })).dock 0) = true := by decide +kernel

/-- R109: the step in which held plus reserved reaches 192 sets JOURNAL_HIGH in the ports, and the next step sets it no more. -/
theorem test_journalHigh :
    let s (n : Nat) : State := { base with journal := { records := [], next := 1, reserved := n } }
    ((conclude (s 191) (s 192)).port .kiosk).flags.getLsbD 1 = true ∧ ((conclude (s 192) (s 192)).port .kiosk).flags.getLsbD 1 = false := by
  decide +kernel

theorem witness_ReportMergesJoinsOrIsDiscarded :
    let r : Report := { source := .central, code := 8, dock := some 0, bike := some 20101, reporter := none }
    let full (sent : Bool) : List FaultRecord := (List.range 64).map fun n => fault (n + 1) sent 7 1
    (fault 42 false 8 2).sent = false ∧ (fault 42 false 8 2).dock = r.dock ∧ (fault 42 false 8 2).bike = r.bike ∧ (fault 42 false 8 2).code = r.code
      ∧ (∀ x ∈ full true, ¬ (x.sent = false ∧ x.code = r.code)) ∧ 64 ≤ (full true).length
      ∧ (full true).head?.map FaultRecord.sent = some true ∧ ∀ x ∈ full false, x.sent = false ∧ x.code ≠ r.code := by decide +kernel

theorem witness_MarkReachesItsDock :
    ((base.dock 0).bike = some 20101 ∧ (base.dock 0).link = .online ∧ (base.dock 0).release = none ∧ (base.dock 0).steps = [])
      ∧ (base.dock 1).bike = none ∧ (lost.dock 0).link = .lost
      ∧ ((releasing rental .opened none).dock 0).release = some (release rental .opened none true)
      ∧ ((verifyingRental.dock 0).release = none ∧ (verifyingRental.dock 0).verifyCtx = some (release rental .opened none false))
      ∧ ((base.updDock 0 fun k => { k with steps := [.query, .clearMark, .lock] }).dock 0).steps = [.query] ++ .clearMark :: [.lock] := by
  decide +kernel

theorem witness_FaultReportIsTaken :
    (∀ p i, base.gets (long p) i) ∧ (∀ i, (withManifest .active).gets (long .service) i)
      ∧ (64 < (65#8).toNat ∧ (64#8).toNat = (63 : DockNo).val + 1 ∧ (9#8).toNat ≤ 9 ∧ 9 < (10#8).toNat)
      ∧ ((base.dock 0).mapped = true ∧ (base.dock 63).mapped = false)
      ∧ ((withManifest .active).manifests.get 0 = some (manifest .active) ∧ (manifest .active).state = .active)
      ∧ base.faults.policyOf 2 = .quarantine ∧ base.faults.policyOf 8 = .reportOnly :=
  ⟨base_gets, withManifest_gets .active _, by decide +kernel⟩

theorem witness_MarkRequestsOfOfficeAndCrew :
    (∀ p i, base.gets (long p) i) ∧ (∀ i, (withManifest .active).gets (long .service) i)
      ∧ ((base.dock 0).bike = some 20101 ∧ (20101#24).toNat = 20101 ∧ (base.dock 0).mapped = true ∧ (base.dock 63).mapped = false)
      ∧ (withManifest .active).manifests.get 0 = some (manifest .active)
      ∧ (base.hears (on .service) ∧ lost.hears (on .service) ∧ (lost.dock 0).mapped = true ∧ (lost.dock 0).link = .lost)
      ∧ ((base.dock 0).link = .online ∧ (base.updDock 0 fun k => { k with custody := .jammed }).hears (on .service)) :=
  ⟨base_gets, withManifest_gets .active _, by decide +kernel⟩

/-- Records 41, SENT, and 42, OPEN with repeats 2. -/
def twoFaults : State := { base with faults := { base.faults with queue := [fault 41 true 8 1, fault 42 false 4 2] } }

theorem witness_FaultRequestsOfTheOffice :
    (∀ i, twoFaults.gets (long .backhaul) i) ∧ twoFaults.hears (on .backhaul)
      ∧ (∀ r ∈ twoFaults.faults.queue, r.number ≠ 43) ∧ (twoFaults.faults.queue.map FaultRecord.number).Nodup
      ∧ (∀ q ∈ [fault 41 true 8 1] ++ [], q.number ≠ 42)
      ∧ (∀ es ∈ [[⟨42, 1⟩], [⟨42, 2⟩], [⟨42, 15⟩], [⟨41, 1⟩], [⟨43, 1⟩], [], [⟨42, 16⟩], List.replicate 16 ⟨42, 2⟩, List.replicate 17 ⟨42, 2⟩],
        (Instr.faultAck (long .backhaul) 0 es).wellFormed = true)
      ∧ ((13#8).toNat = 13 ∧ ¬ 1 ≤ (0#8).toNat ∧ (1#8).toNat ≤ 1) :=
  ⟨fun i => gets_long _ i (by decide +kernel) rfl, by decide +kernel⟩

theorem witness_MapWriteMapsOrClearsTheDock :
    (∀ p i, base.gets (long p) i ∧ lost.gets (long p) i)
      ∧ (∀ d : DockNo, base.map.get d = none → base.dock d = Dock.cleared)
      ∧ (base.map.get 1 = some 2 ∧ (base.dock 1).custody = .empty ∧ (base.lane 1).slot = none ∧ base.line.inFlight = none)
      ∧ (base.map.get 0 = some 1 ∧ (base.dock 0).custody = .docked ∧ (base.dock 0).link ≠ .lost) ∧ (lost.dock 0).link = .lost
      ∧ base.map.get 63 = none ∧ (1 ≤ (120#8).toNat ∧ (120#8).toNat ≤ 120 ∧ 120 < (121#8).toNat ∧ (0#8).toNat < 1)
      ∧ ∀ i ∈ [0, 63, 64], ((base.updPort .service fun q => { q with cursor := ⟨.map, i, .onReadAndWrite⟩ }).port .service).cursor.table = .map :=
  ⟨fun p i => ⟨base_gets p i, gets_long p i (by cases p <;> decide +kernel) (by cases p <;> rfl)⟩, by decide +kernel⟩

theorem witness_ClockSetDatesTheTable :
    (∀ i, base.gets (long .backhaul) i ∧ ({ base with clock := none } : State).gets (long .backhaul) i
        ∧ (withManifest .staged).gets (long .backhaul) i)
      ∧ ((0#32).toNat = 0 ∧ (1#32).toNat ≠ 0 ∧ (4294965495#32).toNat + 1800 = 4294967295)
      ∧ base.clock = some 6000000 ∧ base.cards.Pairwise (fun b c => b.serial.toNat < c.serial.toNat)
      ∧ ((withManifest .staged).manifests.get 0 = some (manifest .staged) ∧ (manifest .staged).stagedUntil = some 6007680) :=
  ⟨fun i => ⟨base_gets _ i, gets_long _ i (by decide +kernel) rfl, withManifest_gets _ _ i⟩, by decide +kernel⟩

theorem witness_StationSetReadsAndClamps :
    (∀ p i, base.gets (long p) i) ∧ ((0#8).toNat ≤ 1 ∧ (1#8).toNat ≤ 1)
      ∧ ((2#32).toInt < 5 ∧ ¬ (5#32).toInt < 5 ∧ ¬ (120 : Int) < (120#32).toInt ∧ (120 : Int) < (121#32).toInt) :=
  ⟨base_gets, by decide⟩

theorem witness_StampAndUnlockReplies :
    ((asked 0 (.stamp stampA) .custody (releasing rental .stamping none)).awaits ⟨0, 1, .stamp stampA, .custody, 1, false⟩
        ∧ ((releasing rental .stamping none).dock 0).release = some (release rental .stamping none true))
      ∧ ((asked 0 (.unlock 20) .custody (releasing rental .unlocking none)).awaits ⟨0, 1, .unlock 20, .custody, 1, false⟩
        ∧ ((releasing rental .unlocking none).dock 0).release = some (release rental .unlocking none true))
      ∧ ((asked 0 (.unlock 20) .custody base).awaits ⟨0, 1, .unlock 20, .custody, 1, false⟩ ∧ (base.dock 0).release = none) := by
  decide +kernel

theorem called_base (d : DockNo) (h : d = 0 ∨ d = 1) : (called d base).awaitsNews d (d.val + 1) news := by
  rcases h with rfl | rfl <;> decide +kernel

theorem witness_DockJams :
    (called 0 base).awaitsNews 0 1 news
      ∧ (asked 0 (.unlock 20) .custody (releasing rental .unlocking none)).awaits ⟨0, 1, .unlock 20, .custody, 1, false⟩
      ∧ (∀ s ∈ [base, verifying, arriving none, releasing rental .relocking none],
        (asked 0 .lock .custody s).awaits ⟨0, 1, .lock, .custody, 1, false⟩)
      ∧ ((base.dock 0).custody = .docked ∧ (verifying.dock 0).custody = .verify ∧ ((arriving none).dock 0).custody = .arriving
        ∧ ((arriving none).dock 0).arrival.map Arrival.locked = some none) := ⟨called_base 0 (.inl rfl), by decide +kernel⟩

theorem witness_RemovalCompletesARelease :
    ((called 0 (releasing rental .opened (some 5000))).awaitsNews 0 1 news ∧ (called 0 base).awaitsNews 0 1 news
        ∧ (called 1 base).awaitsNews 1 2 news)
      ∧ (∀ u ∈ [5000, 5001], ((releasing rental .opened (some u)).dock 0).release = some (release rental .opened (some u) true))
      ∧ (∀ s ∈ [releasing rental .opened none, verifyingRental, base],
        (asked 0 .query .sweep s).awaits ⟨0, 1, .query, .sweep, 1, false⟩ ∧ (asked 0 .lock .custody s).awaits ⟨0, 1, .lock, .custody, 1, false⟩)
      ∧ noBike.flags.getLsbD 0 = false ∧ (verifyingRental.dock 0).custody = .verify ∧ (verifyingRental.dock 0).release = none := by
  refine ⟨⟨by decide +kernel, called_base 0 (.inl rfl), called_base 1 (.inr rfl)⟩, by decide +kernel⟩

/-- Dock 2 held for an UNLOAD line of the ACTIVE manifest 915. -/
def unloading : State :=
  ({ base with manifests := base.manifests.set 0 (some { manifest .active with lines := [{ unloadLine with reserved := 1 }] }) } : State).updDock 1
    fun k => { k with hold := some ⟨0, 0⟩ }

/-- Dock 1 in an arrival with an older record that waits; and dock 2 in one with an UNLOAD hold of the ACTIVE manifest. -/
def arrivingAgain : State := (arriving none).updDock 0 fun k =>
  { k with settle := some ⟨.vanIn none, .clock 5999000, false, false, 20101⟩ }

def unloadingNow (locked : Option Locked) : State := unloading.updDock 1 fun k =>
  { k with
    custody := .arriving, bike := some 20102
    arrival := some { time := .clock 6000000, clockLate := false, tag := none, lowFill := false, locked } }

theorem witness_RelockCancelsOrSettles :
    (∀ s ∈ [releasing rental .relocking none, verifyingRental, base, verifying, arriving none, arrivingAgain,
          verifying.updDock 0 fun k => { k with since := none }, releasing rental .opened none,
          base.updDock 0 fun k => { k with custody := .jammed }],
        (asked 0 .lock .custody s).awaits ⟨0, 1, .lock, .custody, 1, false⟩)
      ∧ ((arrivingAgain.dock 0).settle.isSome = true
        ∧ ((arrivingAgain.dock 0).arrival.map Arrival.locked = some none ∧ (arrivingAgain.dock 0).custody = .arriving))
      ∧ (∀ s ∈ [unloadingNow none, unloadingNow (some ⟨.clock 6000000, .vanIn none⟩), base],
        (asked 1 .lock .custody s).awaits ⟨1, 2, .lock, .custody, 1, false⟩)
      ∧ (((unloadingNow none).dock 1).hold = some ⟨0, 0⟩ ∧ ((unloadingNow none).manifests.get 0).map Manifest.state = some .active)
      ∧ ((verifying.dock 0).verifyCtx = none ∧ (verifying.dock 0).bike.isSome = true ∧ (verifying.dock 0).since.isSome = true)
      ∧ (((arriving none).dock 0).settle = none ∧ ((arriving none).dock 0).hold = none ∧ (arriving none).manifests.get 0 = none
        ∧ (arriving none).manifests.get 1 = none)
      ∧ (RetractTest base.settings (stampOfWords (tagStamp 412 5999911)) 6000000
        ∧ ¬ RetractTest base.settings (stampOfWords (tagStamp 412 5999910)) 6000000) := by decide +kernel

theorem witness_AdmissionChargesAndRecords :
    (findCard base serialA = some cardA ∧ cardA.isStaff = false ∧ cardA.isGuest = false ∧ cardA.body = .member 1000 1 2400 none)
      ∧ (findCard base serialG = some cardG ∧ cardG.body = .guest 317 3 1000 none)
      ∧ (findCard base serialS = some cardS ∧ cardS.body = .staff 7) ∧ findCard base 9 = none
      ∧ ((-100000 : Int) ≤ -99000 ∧ (-99000 : Int) - 2400 < -100000) := by decide +kernel

theorem witness_ArrivalsCountForManifests :
    ((unloading.dock 1).hold = some ⟨0, 0⟩ ∧ (lineOf unloading.manifests 0 0).map MLine.action = some .unload)
      ∧ ((unloading.dock 0).hold = none ∧ (unloading.manifests.get 0).map Manifest.state = some .active)
      ∧ (unloadLine.reserved + unloadLine.done < unloadLine.asked ∧ ¬ 3 < unloadLine.asked)
      ∧ base.manifests.get 0 = none ∧ base.manifests.get 1 = none := by decide +kernel

theorem witness_QueryReplyReconcilesTheDock :
    (∀ s ∈ [base, verifying, verifyingRental, arriving none, releasing rental .opened none],
        (asked 0 .query .sweep s).awaits ⟨0, 1, .query, .sweep, 1, false⟩)
      ∧ (asked 1 .query .sweep base).awaits ⟨1, 2, .query, .sweep, 1, false⟩
      ∧ (asked 0 .query .custody verifying).awaits ⟨0, 1, .query, .custody, 1, false⟩
      ∧ readBlock noBike = none ∧ readBlock (block 20101 none) = some ⟨true, some ⟨20101, none, none⟩⟩
      ∧ (let b : StateBlock := block 20101 (some (tagStamp 77 5996600))
        readBlock b = some ⟨true, some ⟨20101, none, some (stampOfWords (tagStamp 77 5996600))⟩⟩) := by decide +kernel

theorem witness_unheld : base.unheld 0 (some ⟨20101, none, none⟩) ∧ base.unheld 0 (some ⟨0, none, none⟩) ∧ base.unheld 0 none := by
  refine ⟨fun t h _ => ?_, fun t h n => ?_, fun t h => by cases h⟩
  · cases h; decide +kernel
  · cases h; exact absurd rfl n

theorem witness_BikeInTwoDocks :
    ((2 : DockNo) ≠ 0 ∧ (base.dock 2).bike = some 20103 ∧ ∀ c : DockNo, c ≠ 0 → c ≠ 2 → (base.dock c).bike ≠ some 20103)
      ∧ (base.dock 0).withheld = false ∧ (base.dock 2).custody ≠ .releasing
      ∧ ((releasing rental .opened none).dock 0).release = some (release rental .opened none true) := by decide +kernel

theorem witness_TagWriteShowAndProbeReplies :
    (∀ c ∈ [Cmd.clear, .mark 3, .clearMark], (asked 0 c .custody base).awaits ⟨0, 1, c, .custody, 1, false⟩)
      ∧ (asked 0 (.display .red) .display base).awaits ⟨0, 1, .display .red, .display, 1, false⟩
      ∧ (asked 0 .probe .probe lost).line.arbiter = .exchange ⟨0, 1, .probe, .probe, 1, false⟩ ∧ lost.mode = .run := by decide +kernel

theorem witness_BadTriesRetryFailAndDrop :
    ((asked 0 .query .sweep base).awaits ⟨0, 1, .query, .sweep, 1, false⟩ ∧ ((Origin.sweep = .display) ↔ ∃ p, Cmd.query = .display p)
        ∧ ¬ 1 + base.settings.retryLimit ≤ 1 ∧ 1 + base.settings.retryLimit ≤ 3)
      ∧ ((asked 0 .query .sweep (base.updLane 0 fun y => { y with slot := some ⟨.unlock 20, .custody⟩ })).awaits
        ⟨0, 1, .query, .sweep, 1, false⟩)
      ∧ ((base.dock 0).online = true ∧ (base.lane 0).slot = none
        ∧ base.settings.dropThreshold ≤ (((base.updLane 0 fun y => { y with window := 5 }).erred 0).lane 0).window
        ∧ ¬ base.settings.dropThreshold ≤ (((base.updLane 0 fun y => { y with window := 4 }).erred 0).lane 0).window)
      ∧ goodReply base.settings ⟨0, 1, .lock, .custody, 1, false⟩ (lineFrame true 1 3 [1]) = some (.status .locked)
      ∧ goodReply base.settings ⟨0, 1, .lock, .custody, 1, false⟩ [] = none
      ∧ goodReply base.settings ⟨0, 1, .query, .sweep, 1, false⟩ (lineFrame true 1 1 noBike.bytes) = some (.block noBike) := by
  exact ⟨⟨by decide +kernel, Iff.intro (fun h => by cases h) (fun ⟨p, h⟩ => by cases h), by decide +kernel⟩, by decide +kernel⟩

theorem witness_CallRoundsFindTheirWinner :
    (base.mode = .run ∧ base.line.arbiter = .free ∧ base.line.rounds < 2 ∧ 1 ≤ base.line.pointer ∧ base.line.pointer ≤ 120)
      ∧ ((119#7).toNat < 120 ∧ 120 ≤ (120#7).toNat)
      ∧ ((called 0 base).line.arbiter = .round (some 1) ∧ ∀ e : DockNo, (called 0 base).map.get e = some 1 ↔ e = 0)
      ∧ ((called 63 base).line.arbiter = .round (some 64) ∧ ∀ e : DockNo, (called 63 base).map.get e ≠ some 64)
      ∧ (let s := called 0 ((releasing rental .unlocking none).updLane 0 fun y => { y with window := 5, slot := some ⟨.unlock 20, .custody⟩ })
        (s.dock 0).online = true ∧ s.settings.dropThreshold ≤ ((s.erred 0).lane 0).window)
      ∧ (base.line.arbiter = .free ∧ ({ base.line with arbiter := .round none } : Line).arbiter ≠ .round (some 1))
      ∧ goodNews base.settings 1 [] = none ∧ goodNews base.settings 1 (lineFrame true 1 0x24 []) = some (false, .jam) := by decide +kernel

theorem witness_NewsIsRoutedOnce :
    (called 0 base).awaitsNews 0 1 news ∧ (called 1 base).awaitsNews 1 2 news ∧ (called 0 verifying).awaitsNews 0 1 news
      ∧ (queryThere verifying 0 = false ∧ queryThere (verifying.updDock 0 fun k => { k with steps := [.query] }) 0 = true)
      ∧ ((called 63 base).line.arbiter = .round (some 64) ∧ ∀ e : DockNo, (called 63 base).map.get e ≠ some 64)
      ∧ (called 0 (releasing rental .opened none)).awaitsNews 0 1 news
      ∧ (let s := called 0 (base.updLane 0 fun y => { y with lastSeq := some true })
        s.line.arbiter = .round (some 1) ∧ (s.lane 0).lastSeq = some news.seq)
      ∧ ((called 0 lost).line.arbiter = .round (some 1) ∧ (lost.dock 0).link = .lost ∧ (lost.lane 0).lastSeq ≠ some news.seq)
      ∧ (1 ≤ (9#8).toNat ∧ (9#8).toNat ≤ 9 ∧ 9 < (10#8).toNat) := by decide +kernel

/-- No manifest is held in the small station. -/
theorem base_slots : ∀ m, base.manifests.get m = none := by decide +kernel

theorem slotted_base : base.Slotted := by
  refine ⟨fun m x h => ?_, fun x y h => ?_⟩ <;> (rw [base_slots] at h; cases h)

theorem witness_TapsDecideAtThePost :
    (called 0 base).awaitsNews 0 1 news ∧ base.Slotted ∧ MayRide base serialA cardA 1 ∧ Available (base.dock 0) ∧ RoomToReserve base
      ∧ findCard base 77 = none
      ∧ ((called 0 (withManifest .active)).awaitsNews 0 1 news ∧ ((withManifest .active).dock 0).hold = some ⟨0, 0⟩
        ∧ (manifest .active).staff = some serialS ∧ ((manifest .active).lines[0]?).map MLine.action = some .load
        ∧ cardS.status = .active ∧ RoomToReserve (withManifest .active)) :=
  ⟨called_base 0 (.inl rfl), slotted_base, witness_RentalIsGrantedToACardThatMayRide.2.2.1, by decide +kernel⟩

theorem withManifest_slots : (withManifest .active).manifests.get 0 = some (manifest .active)
    ∧ (withManifest .active).manifests.get 1 = none := by decide +kernel

theorem withManifest_slotted : (withManifest .active).Slotted := by
  refine ⟨fun m x h => ?_, fun x y _ h => ?_⟩
  · match m with
    | 0 =>
      rw [withManifest_slots.1] at h
      cases h
      decide +kernel
    | 1 =>
      rw [withManifest_slots.2] at h
      cases h
  · rw [withManifest_slots.2] at h
    cases h

theorem witness_LineTimersActWhenTheyAreDue :
    (base.mode = .run ∧ ((releasing rental .opened (some 5000)).dock 0).online = true
        ∧ ((releasing rental .opened (some 5000)).dock 0).release = some (release rental .opened (some 5000) true))
      ∧ (lost.dock 0).link = .lost ∧ (lost.lane 0).probeAt = some 5000 ∧ lost.line.idleAt 0 = true ∧ lost.uptime = 5000
      ∧ (base.line.sweepDue ≤ base.uptime ∧ base.line.sweepAt = none ∧ base.line.sweepOut = false)
      ∧ base.uptime < ({ base.line with sweepDue := 5001 } : Line).sweepDue
      ∧ (({ base.line with sweepAt := some 64 } : Line).sweepAt = some 64 ∧ (base.lane 0).slot = none) := by decide +kernel

theorem witness_LineAndBlockEncodingsReadBack :
    (120 < 256 ∧ noBike.bytes.length ≤ 24) ∧ (block 1 none).flags.getLsbD 0 = true ∧ noBike.flags.getLsbD 0 = false
      ∧ (stampA.station < 65536 ∧ stampA.dock < 256 ∧ stampA.start < 4294967296 ∧ stampA.trip < 4294967296) := by decide +kernel

theorem docked_base : base.Docked := by
  have one : ∀ d e : DockNo, (base.dock d).bike.isSome = true → (base.dock d).bike = (base.dock e).bike → d = e := by decide +kernel
  refine ⟨by decide +kernel, fun d e n _ h k => one d e (by rw [h]; rfl) (h.trans k.symm), fun _ d _ => ⟨?_, fun x h => ?_⟩⟩
  · revert d
    decide +kernel
  · rw [show base.line.arbiter = .free from rfl] at h
    cases h

theorem journalled_base : base.Journalled := by
  refine ⟨fun i r h => ?_, by decide +kernel⟩
  rw [show base.journal.records = [] from rfl] at h
  simp at h

/-- A step of the small station, and the invariants that StepKeepsTheTablesInRange, StepKeepsTheDockTableInShape and
StepKeepsTheJournalAccounted start from. -/
theorem witness_StepKeeps :
    Machine.step { base with pending := [.sweepTimer] } = .next (after .sweepTimer base)
      ∧ base.Priced ∧ base.Carded ∧ base.Mapped ∧ base.Slotted ∧ base.Reported ∧ base.Docked ∧ base.Journalled :=
  ⟨rfl, by decide +kernel, by decide +kernel, by decide +kernel, slotted_base, by decide +kernel, docked_base, journalled_base⟩

/-- No dock of the small station is held. -/
theorem base_holds : ∀ d, (base.dock d).hold = none := by decide +kernel

theorem witness_StepKeepsHoldsCounted : base.Mapped ∧ base.Docked ∧ base.Slotted ∧ base.Held := by
  refine ⟨by decide +kernel, docked_base, slotted_base, fun m i => ?_, fun d h hh => ?_, by decide +kernel⟩
  · rw [show lineOf base.manifests m i = none by rw [lineOf, base_slots]; rfl]
    intro d h
    rw [base_holds] at h
    cases h
  · rw [base_holds] at hh
    cases hh

/-- A held dock with its line's count, as `State.Held` wants it. -/
theorem witness_hold : (lineOf (withManifest .active).manifests 0 0).map MLine.reserved = some 1
    ∧ (allDocks.filter fun d => ((withManifest .active).dock d).hold == some ⟨0, 0⟩) = [0] ∧ (withManifest .active).Slotted :=
  ⟨by decide +kernel, by decide +kernel, withManifest_slotted⟩

end Sys2Proof.Tests
end

/-! Chapter 4: the writes of a tariff record (R81, R82, R167) and the stages of the ride charge (R86 to R89). -/

namespace Sys2Proof.Machine.TariffFamily

/-! ## The stages of the ride charge -/

theorem rideTime_of_early {start arrival : Nat} (h : arrival < start) : rideTime start arrival = ⟨0, true, false⟩ :=
  if_pos h

theorem rideTime_of_within {start arrival : Nat} (h : start ≤ arrival) (hl : arrival ≤ start + 259200) :
    rideTime start arrival = ⟨arrival - start, false, false⟩ := by
  rw [rideTime, if_neg (by omega), if_neg (by unfold longestRide; omega)]

theorem rideTime_of_long {start arrival : Nat} (h : start + 259200 < arrival) :
    rideTime start arrival = ⟨259200, false, true⟩ := by
  rw [rideTime, if_neg (by omega), if_pos (by unfold longestRide; omega)]
  rfl

theorem rideTime_seconds_le (start arrival : Nat) : (rideTime start arrival).seconds ≤ 259200 := by
  rcases Nat.lt_or_ge arrival start with h | h
  · simp [rideTime_of_early h]
  · rcases Nat.lt_or_ge (start + 259200) arrival with hl | hl
    · simp [rideTime_of_long hl]
    · simp only [rideTime_of_within h hl]
      omega

/-- Stages 3 to 6 in the terms of R87: minutes started, those beyond the free ones, blocks started, price. -/
theorem grossBeforeCap_eq (t : Tariff) (D : Nat) :
    grossBeforeCap t D
      = ((if (D + 59) / 60 ≤ t.free then 0 else (D + 59) / 60 - t.free) + t.block - 1) / t.block * t.price := by
  have hb : (D + 59) / 60 - t.free = if (D + 59) / 60 ≤ t.free then 0 else (D + 59) / 60 - t.free := by
    split <;> omega
  rw [← hb]
  rfl

theorem ceilDiv_le (x : Nat) {y : Nat} (hy : 1 ≤ y) : ceilDiv x y ≤ x := by
  rw [ceilDiv, Nat.div_le_iff_le_mul_add_pred hy]
  have : x ≤ y * x := Nat.le_mul_of_pos_left x hy
  omega

/-- A ride of 72 hours at most has 4,320 minutes, so as many blocks at most, of at most 5,000 each. -/
theorem grossBeforeCap_le {t : Tariff} (ht : t.Ranged) {D : Nat} (hD : D ≤ 259200) : grossBeforeCap t D ≤ 21600000 := by
  obtain ⟨-, ⟨hblock, -⟩, hprice, -⟩ := ht
  have hminutes : ceilDiv D 60 ≤ 4320 := by
    unfold ceilDiv
    omega
  have hblocks : ceilDiv (ceilDiv D 60 - t.free) t.block ≤ 4320 :=
    calc ceilDiv (ceilDiv D 60 - t.free) t.block
      _ ≤ ceilDiv D 60 - t.free := ceilDiv_le _ hblock
      _ ≤ ceilDiv D 60 := Nat.sub_le _ _
      _ ≤ 4320 := hminutes
  exact Nat.mul_le_mul hblocks hprice

theorem daysStarted_eq (D : Nat) : daysStarted D = if D = 0 then 1 else (D + 86399) / 86400 := by
  unfold daysStarted ceilDiv
  split <;> omega

theorem daysStarted_bounds {D : Nat} (hD : D ≤ 259200) : 1 ≤ daysStarted D ∧ daysStarted D ≤ 3 := by
  unfold daysStarted ceilDiv
  omega

theorem grossAfterCap_of_noCap {t : Tariff} (h : t.cap = 0) (D : Nat) : grossAfterCap t D = grossBeforeCap t D :=
  if_pos h

theorem grossAfterCap_of_cap {t : Tariff} (h : 0 < t.cap) (D : Nat) :
    grossAfterCap t D = min (grossBeforeCap t D) (daysStarted D * t.cap) :=
  if_neg (Nat.ne_of_gt h)

/-- With a day cap the gross is at most three caps of 100,000 each (R88). -/
theorem grossAfterCap_le {t : Tariff} (ht : t.Ranged) (h : 0 < t.cap) {D : Nat} (hD : D ≤ 259200) :
    grossAfterCap t D ≤ 300000 := by
  obtain ⟨-, -, -, hcap, -⟩ := ht
  calc grossAfterCap t D
    _ ≤ daysStarted D * t.cap := by rw [grossAfterCap_of_cap h]; exact Nat.min_le_right _ _
    _ ≤ 3 * 100000 := Nat.mul_le_mul (daysStarted_bounds hD).2 hcap

section charge
variable (t : Tariff) (start arrival : Nat) (lowFill : Bool)

theorem rideCharge_gross :
    (rideCharge t start arrival lowFill).gross = grossAfterCap t (rideTime start arrival).seconds := rfl

theorem rideCharge_capped : (rideCharge t start arrival lowFill).capped
    = decide ((rideCharge t start arrival lowFill).gross < grossBeforeCap t (rideTime start arrival).seconds) := rfl

/-- Stage 8: a credit only by the low-fill decision, of a tariff that gives one (R89). -/
theorem rideCharge_credit : (rideCharge t start arrival lowFill).credit
    = if lowFill = true ∧ 0 < t.credit then min t.credit (rideCharge t start arrival lowFill).gross else 0 := by
  simp [rideCharge]

theorem rideCharge_creditFlag :
    (rideCharge t start arrival lowFill).creditFlag = decide (lowFill = true ∧ 0 < t.credit) := by
  simp [rideCharge]

end charge

/-- Settles O25: each stage from its own lemma, the gross by the three cases of the day cap. -/
theorem rideChargeFollowsItsStages : Obligations.RideChargeFollowsItsStages := by
  intro t start arrival lowFill ht c D m b g n
  have hD : D ≤ 259200 := rideTime_seconds_le start arrival
  have hg : g = grossBeforeCap t D := (grossBeforeCap_eq t D).symm
  have hn : n = daysStarted D := (daysStarted_eq D).symm
  have hgross : c.gross = grossAfterCap t D := rideCharge_gross t start arrival lowFill
  have hcapped : c.capped = decide (c.gross < g) := hg ▸ rideCharge_capped t start arrival lowFill
  have hcredit : c.credit = if lowFill = true ∧ 0 < t.credit then min t.credit c.gross else 0 :=
    rideCharge_credit t start arrival lowFill
  have hflag : c.creditFlag = decide (lowFill = true ∧ 0 < t.credit) := rideCharge_creditFlag t start arrival lowFill
  refine ⟨rideTime_of_early, rideTime_of_within, rideTime_of_long, ⟨?minutes, ?zero, ?one, ?gross⟩, ?noCap, ?below,
    ?above, ⟨?daysLower, ?daysUpper, ?capBound⟩, ?credited, ?notCredited, rfl, ?creditLe⟩
  case minutes => omega
  case zero => omega
  case one => omega
  case gross => rw [hg]; exact grossBeforeCap_le ht hD
  case noCap =>
    intro h
    have : c.gross = g := by rw [hgross, hg, grossAfterCap_of_noCap h]
    simp [hcapped, this]
  case below =>
    intro h hle
    have : c.gross = g := by rw [hgross, grossAfterCap_of_cap h, ← hg, ← hn, Nat.min_eq_left hle]
    simp [hcapped, this]
  case above =>
    intro h hlt
    have : c.gross = n * t.cap := by rw [hgross, grossAfterCap_of_cap h, ← hg, ← hn, Nat.min_eq_right (Nat.le_of_lt hlt)]
    simp [hcapped, this, hlt]
  case daysLower => rw [hn]; exact (daysStarted_bounds hD).1
  case daysUpper => rw [hn]; exact (daysStarted_bounds hD).2
  case capBound => exact fun h => grossAfterCap_le ht h hD
  case credited =>
    intro hl hq
    simp [hcredit, hflag, hl, hq]
  case notCredited =>
    rintro (hl | hq)
    · simp [hcredit, hflag, hl]
    · simp [hcredit, hflag, hq]
  case creditLe =>
    rw [hcredit]
    split
    · exact Nat.min_le_right _ _
    · exact Nat.zero_le _

/-! ## The record a tariff write stores -/

theorem clampInt_eq_ite {lo hi : Int} (h : lo ≤ hi) (x : Int) :
    clampInt lo hi x = if x < lo then lo else if hi < x then hi else x := by
  unfold clampInt
  split
  · omega
  · split <;> omega

theorem toNat_clampInt (lo hi : Nat) (h : lo ≤ hi) (v : BitVec 32) :
    (clampInt lo hi v.toInt).toNat = clampTo lo hi v := by
  rw [clampInt_eq_ite (by omega), clampTo]
  split
  · rfl
  · split <;> rfl

/-- The model's clamp is that of R81, field by field. -/
theorem tariffOf_eq_clampedTariff (v : TariffWords) : tariffOf v = clampedTariff v := by
  simp only [tariffOf, clampedTariff, Tariff.mk.injEq]
  exact ⟨toNat_clampInt 0 240 (by decide) _, toNat_clampInt 1 120 (by decide) _, toNat_clampInt 0 5000 (by decide) _,
    toNat_clampInt 0 100000 (by decide) _, toNat_clampInt 1 7 (by decide) _, clampInt_eq_ite (by decide) _,
    toNat_clampInt 0 1000 (by decide) _⟩

theorem tariffClamped_eq_false_iff (v : TariffWords) : tariffClamped v = false ↔ TariffInRange v := by
  simp [tariffClamped, tariffValues, tariffRanges, inRange, TariffInRange]

theorem okOr_tariffClamped (v : TariffWords) :
    okOr (tariffClamped v) = if TariffInRange v then .ok else .clamped := by
  by_cases h : TariffInRange v
  · rw [if_pos h, (tariffClamped_eq_false_iff v).2 h]
    rfl
  · rw [if_neg h, eq_true_of_ne_false fun hc => h ((tariffClamped_eq_false_iff v).1 hc)]
    rfl

theorem writeTariff_eq (p : Fin 8) (v : TariffWords) (s : State) :
    writeTariff p v s = answerWith { s with tariffs := s.tariffs.set p.val (clampedTariff v) p.isLt }
      (if TariffInRange v then .ok else .clamped) (tariffBytes (clampedTariff v)) := by
  rw [writeTariff, tariffOf_eq_clampedTariff, okOr_tariffClamped]

/-! ## Plans and indexes -/

theorem planOf_of_ge {b : Byte} (h : 8 ≤ b.toNat) : planOf b = none := dif_neg (Nat.not_lt.2 h)

theorem planOf_of_eq {b : Byte} {p : Fin 8} (h : b.toNat = p.val) : planOf b = some p := by
  rw [planOf, dif_pos (h ▸ p.isLt)]
  exact congrArg some (Fin.ext h)

theorem planAt_of_ge {i : Nat} (h : 8 ≤ i) : planAt i = none := dif_neg (Nat.not_lt.2 h)

theorem planAt_val (p : Fin 8) : planAt p.val = some p := dif_pos p.isLt

/-! ## The requests at their blocks -/

/-- A long request that a port gets and may make is answered by its block (R159). -/
theorem whileRunning_serveLong {s : State} {f : LongFrame} {i : Instr} {kind : BitVec 6} {payload : List Byte}
    {allowed : PortId → Bool} (hl : i.layout = some (kind, payload)) (h : s.gets f i)
    (hlen : payload.length ≤ maxPayload) (ha : allowed f.link.port = true) (act : State → Taken) :
    whileRunning (s.select f.link.port) (serveLong f i.layout true allowed act)
      = .next (queueAnswer f.link.port f.link.tag (act (s.accepted f.link))) := by
  obtain ⟨⟨hrun, -⟩, -⟩ := id h
  rw [whileRunning_run (s := s.select f.link.port) hrun, serveLong_gets hl h hlen rfl ha]

/-- TARIFF_PUT on the backhaul port reaches the card store (R81, R163). -/
theorem exec_tariffPut {s : State} {f : LongFrame} {plan : Byte} {v : TariffWords} (h : s.gets f (.tariffPut f plan v))
    (hp : f.link.port = .backhaul) : exec (.tariffPut f plan v) s
      = .next (queueAnswer f.link.port f.link.tag (takeTariffPut plan v (s.accepted f.link))) :=
  whileRunning_serveLong (payload := plan :: v.bytes) rfl h (by simp [maxPayload]) (by simp [hp, onBackhaul]) _

/-- The payload of a cursor write fits a frame (R190). -/
theorem cursorEntry_bytes_length_le {f : LongFrame} {w : CursorEntry} (h : (Instr.cursorWrite f w).wellFormed = true) :
    w.bytes.length ≤ maxPayload := by
  cases w with
  | tariff v => simp [CursorEntry.bytes, maxPayload]
  | map valid address => simp [CursorEntry.bytes, maxPayload]
  | other payload =>
    simp only [Instr.wellFormed, entryOk, Bool.and_eq_true, decide_eq_true_eq] at h
    obtain ⟨-, ⟨hlen, -⟩, -⟩ := h
    exact hlen

/-- CURSOR_WRITE reaches the port's cursor on every port: its permission goes by the table (R164, R167). -/
theorem exec_cursorWrite {s : State} {f : LongFrame} {w : CursorEntry} (h : s.gets f (.cursorWrite f w))
    (hw : (Instr.cursorWrite f w).wellFormed = true) : exec (.cursorWrite f w) s
      = .next (queueAnswer f.link.port f.link.tag (takeCursorWrite f.link.port w (s.accepted f.link))) :=
  whileRunning_serveLong (payload := w.bytes) rfl h (cursorEntry_bytes_length_le hw) rfl _

theorem accepted_cursor (s : State) (k : Link) : ((s.accepted k).port k.port).cursor = (s.port k.port).cursor := by
  simp [State.accepted]

theorem accepted_tariffs (s : State) (k : Link) : (s.accepted k).tariffs = s.tariffs := rfl

theorem updPort_congr {s : State} {p : PortId} {f g : Port → Port} (h : f (s.port p) = g (s.port p)) :
    s.updPort p f = s.updPort p g := by
  rw [← updPort_const s p f, ← updPort_const s p g, h]

theorem updPort_id (s : State) (p : PortId) : s.updPort p id = s := by
  cases p <;> rfl

/-- The cursor's step after a write that was taken, as one write of the cursor (R167). -/
theorem stepAfterWrite_answerWith {t : State} {p : PortId} {c : Cursor} (hc : (t.port p).cursor = c) (st : Status)
    (content : List Byte) : stepAfterWrite p (answerWith t st content) = answerWith (t.updPort p fun q =>
      { q with cursor := if c.mode = StepMode.none then c else { c with index := c.index + 1 } }) st content := by
  subst hc
  by_cases hm : (t.port p).cursor.mode = .none
  · have hid : t = t.updPort p fun q => { q with cursor := (t.port p).cursor } :=
      (updPort_id t p).symm.trans (updPort_congr rfl)
    simp only [stepAfterWrite, answerWith, hm, if_true]
    exact congrArg (·, _) hid
  · simp only [stepAfterWrite, answerWith, hm, if_false, State.stepCursor]
    exact congrArg (·, _) (updPort_congr rfl)

section cursor
variable {s : State} {p : PortId} {w : CursorEntry}

/-- DOCKS and CARDS take no write, at any index (R167). -/
theorem takeCursorWrite_readOnly (h : (s.port p).cursor.table = .docks ∨ (s.port p).cursor.table = .cards) :
    takeCursorWrite p w s = replyStatus s .badRequest := by
  rcases h with h | h <;> simp only [takeCursorWrite, h]

theorem takeCursorWrite_tariffs (h : (s.port p).cursor.table = .tariffs) :
    takeCursorWrite p w s = cursorTariff p (s.port p).cursor.index w s := by
  simp only [takeCursorWrite, h]

theorem cursorTariff_otherPort (h : p ≠ .backhaul) (i : Nat) : cursorTariff p i w s = replyStatus s .notPermitted := by
  simp [cursorTariff, onBackhaul, h]

theorem cursorTariff_pastEnd (hp : p = .backhaul) {i : Nat} (h : 8 ≤ i) :
    cursorTariff p i w s = replyStatus s .range := by
  simp [cursorTariff, onBackhaul, hp, planAt_of_ge h]

theorem cursorTariff_otherLayout (hp : p = .backhaul) {i : Nat} (hi : i < 8) (h : ∀ v, w ≠ .tariff v) :
    cursorTariff p i w s = replyStatus s .badRequest := by
  cases w with
  | tariff v => exact absurd rfl (h v)
  | map valid address => simp [cursorTariff, onBackhaul, hp, planAt, hi]
  | other payload => simp [cursorTariff, onBackhaul, hp, planAt, hi]

/-- A record is written at the cursor's plan, and the cursor steps unless its mode is NONE (R82, R167). -/
theorem cursorTariff_tariff (hp : p = .backhaul) {i : Nat} {plan : Fin 8} (hi : i = plan.val) {c : Cursor}
    (hc : (s.port p).cursor = c) (v : TariffWords) : cursorTariff p i (.tariff v) s
      = answerWith ({ s with tariffs := s.tariffs.set plan.val (clampedTariff v) plan.isLt }.updPort p fun q =>
          { q with cursor := if c.mode = StepMode.none then c else { c with index := c.index + 1 } })
        (if TariffInRange v then .ok else .clamped) (tariffBytes (clampedTariff v)) := by
  have hwrite : cursorTariff p i (.tariff v) s = stepAfterWrite p (writeTariff plan v s) := by
    simp [cursorTariff, onBackhaul, hp, hi, planAt_val]
  rw [hwrite, writeTariff_eq]
  exact stepAfterWrite_answerWith (t := { s with tariffs := s.tariffs.set plan.val (clampedTariff v) plan.isLt }) hc _ _

end cursor

/-- Settles O24: both requests store the record by `writeTariff`; the refusals of a cursor write go by its table, port, index
and layout. -/
theorem tariffWritesClampTheRecord : Obligations.TariffWritesClampTheRecord := by
  refine ⟨fun s f plan v h hp => ?put, fun s f w h hw => ?cursor⟩
  case put =>
    rw [exec_tariffPut h hp]
    refine ⟨fun hplan => ?_, fun p hplan => ?_⟩
    · rw [takeTariffPut, planOf_of_ge hplan]
      rfl
    · rw [takeTariffPut, planOf_of_eq hplan]
      simp only [writeTariff_eq, queueAnswer_content, accepted_tariffs]
  case cursor =>
    intro c refused
    have hc : ((s.accepted f.link).port f.link.port).cursor = c := accepted_cursor s f.link
    have refused_of {st : Status} (ht : takeCursorWrite f.link.port w (s.accepted f.link)
        = replyStatus (s.accepted f.link) st) : refused st := by
      simp only [refused, exec_cursorWrite h hw, ht, queueAnswer_status]
    have onTariffs (ht : c.table = .tariffs) : takeCursorWrite f.link.port w (s.accepted f.link)
        = cursorTariff f.link.port c.index w (s.accepted f.link) := by
      rw [takeCursorWrite_tariffs (by rw [hc, ht]), hc]
    refine ⟨fun ht => ?readOnly, fun ht hp => ?port, fun ht hp hi => ?range, fun ht hp hi hv => ?layout,
      fun v p ht hp hi hv => ?write⟩
    case readOnly => exact refused_of (takeCursorWrite_readOnly (by rwa [hc]))
    case port => exact refused_of ((onTariffs ht).trans (cursorTariff_otherPort hp _))
    case range => exact refused_of ((onTariffs ht).trans (cursorTariff_pastEnd hp hi))
    case layout => exact refused_of ((onTariffs ht).trans (cursorTariff_otherLayout hp hi hv))
    case write =>
      subst hv
      rw [exec_cursorWrite h hw, onTariffs ht, cursorTariff_tariff hp hi hc, queueAnswer_content, accepted_tariffs]

end Sys2Proof.Machine.TariffFamily
